-- ==== Sys2Proof/Word.lean ====
section
/-! DEFINITION. The word types of the block: bytes of the channel buffers, the 16-bit registers and operands, the
32-bit command and response words (30_encoding.md R65, R67; 10_state.md R22). All are unsigned (00_scope.md R14). -/

namespace Sys2Proof

/-- One byte of a channel buffer, or an 8-bit register. -/
abbrev Byte := BitVec 8

/-- A 4-bit field of a command or response word. -/
abbrev Nibble := BitVec 4

/-- A 16-bit register, operand or `DATA` field. -/
abbrev Half := BitVec 16

/-- A 32-bit command word or response word. -/
abbrev Word := BitVec 32

end Sys2Proof
end

