-- ==== Sys2Proof/Config.lean ====
section
/-! DEFINITION. What an implementation of the block fixes (00_scope.md R8 to R10), the shape of the dispatch table's
entries (30_encoding.md R76, R78), and the free values: constants with no body, so that nothing can be proved of them. -/

namespace Sys2Proof

/-- `FEND`, the frame delimiter. R8: width 8, value `0xC0`, fixed. -/
def FEND : Byte := 0xC0#8

/-- `ESCAPE_MODE` of R8. -/
inductive EscapeMode where
  /-- No escaping: the default. -/
  | none
  /-- The escape codec of 30_encoding.md R83 is applied. -/
  | kiss
  deriving DecidableEq, Repr

/-- The parameters of R8 that are not fixed. The 16-bit width is the upper bound 65535 of R9. -/
structure Params where
  /-- `IN_CAP`, capacity of the inbound buffer. -/
  inCap : Half
  /-- `OUT_CAP`, capacity of the outbound buffer. -/
  outCap : Half
  /-- `MAXCOMMANDSIZE`, the longest beacon text. -/
  maxCommandSize : Half
  /-- `ESCAPE_MODE`. -/
  escapeMode : EscapeMode
  /-- `FESC`, used only when `ESCAPE_MODE = KISS`. -/
  fesc : Byte
  /-- `TFEND`, used only when `ESCAPE_MODE = KISS`. -/
  tfend : Byte
  /-- `TFESC`, used only when `ESCAPE_MODE = KISS`. -/
  tfesc : Byte
  deriving DecidableEq, Repr

/-- The text the collaborator answers a status request with once no scripted answer is left: any finite byte
sequence, afresh at each draw (43_command_dispatcher.md R141). No body (DESIGN CHOICE, safe; notes/assumptions/3.md). -/
opaque Config.statusText : Nat → List Byte

/-- The 16-bit `DATA` of `ENC_RES` for a frame length that 16 bits cannot hold: the spec states no value there. First
argument the draw, second the length. No body (DESIGN CHOICE, safe; notes/assumptions/4.md). -/
opaque Config.wideFrameLength : Nat → Nat → Half

/-- The parameters of `State.reset`: the reference and default values of R8. R8 and 92_eei_decisions.md D34 leave
`MAXCOMMANDSIZE` OPEN; 16 is the value of 95_test_vectors.md section 0 (DESIGN CHOICE, unsafe for a run from `State.reset`;
notes/assumptions/2.md). The escape values are the spec's own general knowledge (PRESUMED; notes/assumptions/11.md). -/
def Params.reference : Params :=
  { inCap := 512#16, outCap := 8192#16, maxCommandSize := 16#16, escapeMode := .none,
    fesc := 0xDB#8, tfend := 0xDC#8, tfesc := 0xDD#8 }

/-- The marker bytes of R9, which `FESC` must not be when `ESCAPE_MODE = KISS`. -/
def markerBytes : List Byte := [0x00#8, 0x41#8, 0x43#8, 0x45#8, 0x4B#8, 0x4E#8, 0x52#8, 0x53#8]

/-- The external actions of the dispatch table (R76). -/
inductive Action where
  /-- "beacon with the given text" (0x07). -/
  | beacon
  /-- "deploy antenna, report status string" (0x08). -/
  | deployAntenna
  /-- "report system status string" (0x09). -/
  | reportStatus
  /-- "halt radio transmission" (0x0A). -/
  | haltRadio
  deriving DecidableEq, Repr

/-- The body-length policies of R78. -/
inductive BodyPolicy where
  /-- Defined by the source, taken by no entry of the table (R78; notes/assumptions/12.md). -/
  | exact
  /-- At most `MAXCOMMANDSIZE` bytes (code 0x07). -/
  | maximum
  /-- No expectation (43_command_dispatcher.md R144). -/
  | none
  deriving DecidableEq, Repr

/-- The descriptor variants of R76: `PassThrough | AckThenAction{fn, body_policy} | Unknown`. -/
inductive Descriptor where
  /-- Copy the frame to the outbound buffer, no ACK. -/
  | passThrough
  /-- ACK, then the action, then a data Response if the action produces data. -/
  | ackThenAction (action : Action) (policy : BodyPolicy)
  /-- Not in the table: NACK. -/
  | unknown
  deriving DecidableEq, Repr

end Sys2Proof
end

