-- ==== Sys2Proof/Syntax.lean ====
section
/-! DEFINITION. The instructions of spec/opcode_table.json, one constructor per row: the command words of 30_encoding.md
R68 to R71, each with both operands of the word (`b` is `word[15:8]`, `l` is `word[31:16]`; a command ignores the one
it does not use, R66), and the wire command codes of R76 and R77, each with the body of its frame. -/

namespace Sys2Proof

/-- One constructor per row of the opcode table. -/
inductive Instr where
  /-- `NOP`, R167. -/
  | nop (b : Byte) (l : Half)
  /-- `PUSH_IN`, R90: `b` is the byte to push. -/
  | pushIn (b : Byte) (l : Half)
  /-- `POP_OUT`, R91. -/
  | popOut (b : Byte) (l : Half)
  /-- `DROP_IN`, R92: `l` is the number of bytes to drop. -/
  | dropIn (b : Byte) (l : Half)
  /-- `LOCATE`, R100. -/
  | locate (b : Byte) (l : Half)
  /-- `DECODE`, R115: `l` is the frame length. -/
  | decode (b : Byte) (l : Half)
  /-- `DISPATCH`, R130. -/
  | dispatch (b : Byte) (l : Half)
  /-- `ENC_ACK`, R156: `b` is the command code. -/
  | encAck (b : Byte) (l : Half)
  /-- `ENC_NACK`, R157: `b` is the command code. -/
  | encNack (b : Byte) (l : Half)
  /-- `ENC_RES`, R158. -/
  | encRes (b : Byte) (l : Half)
  /-- `POLL`, R165. -/
  | poll (b : Byte) (l : Half)
  /-- `READ`, R168: `b` is the register number. -/
  | read (b : Byte) (l : Half)
  /-- `READ_BODY`, R169: `l` is the byte index. -/
  | readBody (b : Byte) (l : Half)
  /-- `CLEAR_STATUS`, R170. -/
  | clearStatus (b : Byte) (l : Half)
  /-- A word with `RSV = 0` and `OP = 0xE`, R171. -/
  | reservedOpE (b : Byte) (l : Half)
  /-- A word with `RSV = 0` and `OP = 0xF`, R171. -/
  | reservedOpF (b : Byte) (l : Half)
  /-- A word with `RSV != 0`, whatever its `OP`, R172. -/
  | reservedRsv (op : Nibble) (rsv : Nibble) (b : Byte) (l : Half)
  /-- Wire code 0x00, pass-through, R134. -/
  | codePassThrough (body : List Byte)
  /-- Wire code 0x07, beacon, R135. -/
  | codeBeacon (body : List Byte)
  /-- Wire code 0x08, deploy antenna, R136. -/
  | codeDeployAntenna (body : List Byte)
  /-- Wire code 0x09, report status, R137. -/
  | codeReportStatus (body : List Byte)
  /-- Wire code 0x0A, halt radio transmission, R138. -/
  | codeHaltRadio (body : List Byte)
  /-- Any other wire code, R139. -/
  | codeUnrecognized (code : Byte) (body : List Byte)
  deriving DecidableEq, Repr

/-- What an instruction is read from: a 32-bit command word, which the host issues (R65), or the command code and the
body of a wire frame, which the Frame Decoder yields (R74). -/
inductive Encoded where
  /-- A host command word. -/
  | word (w : Word)
  /-- A decoded command: the byte at frame index 1 and the body. -/
  | wire (code : Byte) (body : List Byte)
  deriving DecidableEq, Repr

end Sys2Proof
end

