-- ==== Sys2Proof/WellFormed.lean ====
section
/-! DEFINITION. Which instruction terms some encoding stands for, and which parameter values R9 admits. -/

namespace Sys2Proof

/-- The five codes of the dispatch table (30_encoding.md R76). -/
def recognizedCodes : List Byte := [0x00#8, 0x07#8, 0x08#8, 0x09#8, 0x0A#8]

/-- An instruction term that an encoding stands for. `RESERVED_RSV` needs `RSV != 0` (R70, R172), and
`CODE_UNRECOGNIZED` a code outside the table (R77). Every other operand may take any value (R66). -/
def Instr.wf : Instr → Bool
  | .reservedRsv _ rsv _ _ => rsv != 0#4
  | .codeUnrecognized code _ => !recognizedCodes.contains code
  | .nop _ _ | .pushIn _ _ | .popOut _ _ | .dropIn _ _ | .locate _ _ | .decode _ _ | .dispatch _ _ => true
  | .encAck _ _ | .encNack _ _ | .encRes _ _ | .poll _ _ | .read _ _ | .readBody _ _ | .clearStatus _ _ => true
  | .reservedOpE _ _ | .reservedOpF _ _ => true
  | .codePassThrough _ | .codeBeacon _ | .codeDeployAntenna _ | .codeReportStatus _ | .codeHaltRadio _ => true

/-- The constraints R9 puts on the parameters. -/
def Params.wf (p : Params) : Bool :=
  decide (1 ≤ p.inCap.toNat) && decide (1 ≤ p.outCap.toNat) &&
    (p.escapeMode == .none ||
      (decide [FEND, p.fesc, p.tfend, p.tfesc].Nodup && !markerBytes.contains p.fesc))

end Sys2Proof
end

