-- ==== Sys2Proof/Decode.lean ====
section
/-! DEFINITION. The decoder of command words (30_encoding.md R65, R66, R68 to R71) and of wire commands (R74, R76, R77),
total on every word and on every code, and the encoder written from the same tables. -/

namespace Sys2Proof

/-- `OP`, `word[3:0]` (R65). -/
def opField (w : Word) : Nibble := w.extractLsb' 0 4

/-- `RSV`, `word[7:4]` (R65). -/
def rsvField (w : Word) : Nibble := w.extractLsb' 4 4

/-- `B`, `word[15:8]` (R65, R66). -/
def bField (w : Word) : Byte := w.extractLsb' 8 8

/-- `L`, `word[31:16]` (R65, R66). -/
def lField (w : Word) : Half := w.extractLsb' 16 16

/-- The word with the given fields: "the value of the word is `L * 2^16 + B * 2^8 + RSV * 2^4 + OP`" (R65). -/
def packWord (op rsv : Nibble) (b : Byte) (l : Half) : Word :=
  BitVec.ofNat 32 (l.toNat * 2 ^ 16 + b.toNat * 2 ^ 8 + rsv.toNat * 2 ^ 4 + op.toNat)

/-- Steps 2 and 3 of R71: the command of R68 that `OP` names, or a reserved opcode (R69). -/
def decodeOp (op : Nibble) (b : Byte) (l : Half) : Instr :=
  match op.toNat with
  | 0x0 => .nop b l
  | 0x1 => .pushIn b l
  | 0x2 => .popOut b l
  | 0x3 => .dropIn b l
  | 0x4 => .locate b l
  | 0x5 => .decode b l
  | 0x6 => .dispatch b l
  | 0x7 => .encAck b l
  | 0x8 => .encNack b l
  | 0x9 => .encRes b l
  | 0xA => .poll b l
  | 0xB => .read b l
  | 0xC => .readBody b l
  | 0xD => .clearStatus b l
  | 0xE => .reservedOpE b l
  | _ => .reservedOpF b l

/-- Decoding of a command word (R71). Step 1 tests `RSV` before `OP` is looked at (60_exceptions.md R185). Total: each
of the 2^32 words names one command or is one of the reserved rows, by name. -/
def decodeWord (w : Word) : Instr :=
  if rsvField w = 0#4 then decodeOp (opField w) (bField w) (lField w)
  else .reservedRsv (opField w) (rsvField w) (bField w) (lField w)

/-- The wire instruction a command code and a body spell (R76, R77): codes are compared as whole 8-bit values, and
not with `FESC` (42_frame_decoder.md R128; notes/assumptions/17.md where `FESC` is one of the listed codes). -/
def decodeCommand (code : Byte) (body : List Byte) : Instr :=
  match code.toNat with
  | 0x00 => .codePassThrough body
  | 0x07 => .codeBeacon body
  | 0x08 => .codeDeployAntenna body
  | 0x09 => .codeReportStatus body
  | 0x0A => .codeHaltRadio body
  | _ => .codeUnrecognized code body

/-- The decoder on both kinds of encoding. -/
def decode : Encoded → Instr
  | .word w => decodeWord w
  | .wire code body => decodeCommand code body

/-- The encoding of an instruction (R65, R68 to R70, R76). -/
def encode : Instr → Encoded
  | .nop b l => .word (packWord 0x0 0x0 b l)
  | .pushIn b l => .word (packWord 0x1 0x0 b l)
  | .popOut b l => .word (packWord 0x2 0x0 b l)
  | .dropIn b l => .word (packWord 0x3 0x0 b l)
  | .locate b l => .word (packWord 0x4 0x0 b l)
  | .decode b l => .word (packWord 0x5 0x0 b l)
  | .dispatch b l => .word (packWord 0x6 0x0 b l)
  | .encAck b l => .word (packWord 0x7 0x0 b l)
  | .encNack b l => .word (packWord 0x8 0x0 b l)
  | .encRes b l => .word (packWord 0x9 0x0 b l)
  | .poll b l => .word (packWord 0xA 0x0 b l)
  | .read b l => .word (packWord 0xB 0x0 b l)
  | .readBody b l => .word (packWord 0xC 0x0 b l)
  | .clearStatus b l => .word (packWord 0xD 0x0 b l)
  | .reservedOpE b l => .word (packWord 0xE 0x0 b l)
  | .reservedOpF b l => .word (packWord 0xF 0x0 b l)
  | .reservedRsv op rsv b l => .word (packWord op rsv b l)
  | .codePassThrough body => .wire 0x00 body
  | .codeBeacon body => .wire 0x07 body
  | .codeDeployAntenna body => .wire 0x08 body
  | .codeReportStatus body => .wire 0x09 body
  | .codeHaltRadio body => .wire 0x0A body
  | .codeUnrecognized code body => .wire code body

/-- The instruction the decoder reads from a row of the opcode table with bits `w`. A 32-bit row is a command word, an
8-bit row a wire command code; the body of a wire frame has no bits in the table, and no bytes here. A command word has
no byte order (20_memory.md R54), so its value is given to the decoder as it is (notes/assumptions/15.md). -/
def decodeTableWord (nbits w : Nat) : Option Instr :=
  match nbits with
  | 32 => some (decode (.word (BitVec.ofNat 32 w)))
  | 8 => some (decode (.wire (BitVec.ofNat 8 w) []))
  | _ => none

end Sys2Proof
end

