-- ==== Sys2Proof/Machine/State.lean ====
section
/-! DEFINITION. The state of the block (10_state.md R20 to R38), what a run shows (00_scope.md R13), and the two outside
agents' inputs (R12). Plain data; every field's rule stands in its docstring. -/

namespace Sys2Proof.Machine

/-- The model faults of 60_exceptions.md R186. The three primitives of Machine/Ops.lean raise them, and `step` stops
with the one `FAULT` holds. SAFE: the spec excludes every state in which one would be raised. -/
inductive Fault where
  /-- `Peek(q, i)` with `i >= Size(q)` (20_memory.md R48). Raised by `peek`. Safe. -/
  | peekOutOfRange
  /-- `PopFront(q)` on an empty `q` (R49). Raised by `popFront`. Safe. -/
  | popEmpty
  /-- `PushBack(q, b)` on a full `q` (R50). Raised by `pushBack`. Safe. -/
  | pushFull
  deriving DecidableEq, Repr

/-- Refusals of the model. Nothing raises one: every word has its effect. -/
inductive Refusal where
  /-- An instruction with no meaning yet. Raised by no arm of `exec`. Safe. -/
  | notModelled (mnemonic : String)
  deriving DecidableEq, Repr

/-- The result codes of 60_exceptions.md R181; 7 to 15 are reserved and have no name. -/
inductive ResultCode where
  | ok | none | malformed | unrecognized | noCommand | overflow | illegal
  deriving DecidableEq, Repr

/-- The `DISP_KIND` values of 10_state.md R27; 5 to 7 are reserved and have no name. -/
inductive DispKind where
  | none | pass | ack | ackRes | nack
  deriving DecidableEq, Repr

/-- The named bits of `STATUS` (10_state.md R23). -/
inductive StatusBit where
  | locValid | decValid | malformed | inOvf | outOvf | illegal
  deriving DecidableEq, Repr

/-- The event kinds of `EVLOG` (10_state.md R33). -/
inductive Event where
  /-- One whole frame appended to `OUT`. -/
  | frame (bytes : List Byte)
  /-- One frame dropped for want of room. -/
  | dropped (bytes : List Byte)
  /-- A `deploy_antenna` request and its answer. -/
  | capDeploy (answer : List Byte)
  /-- A `report_status` request and its answer. -/
  | capStatus (answer : List Byte)
  /-- A `halt_radio` request. -/
  | capHalt
  /-- A beacon request with its text. -/
  | capBeacon (text : List Byte)
  /-- A reset. -/
  | reset
  deriving DecidableEq, Repr

/-- What the host does to the block: "a model run is a sequence of commands and resets, and nothing else"
(70_reset_and_hazards.md R210). -/
inductive HostEvent where
  /-- The host issues a command word (30_encoding.md R65). -/
  | command (w : Word)
  /-- The host or the platform asserts reset (R200). -/
  | reset
  deriving DecidableEq, Repr

/-- The state of the machine. -/
structure State where
  /-- `IN`, front first (10_state.md R30, 20_memory.md R45). -/
  inBuf : List Byte
  /-- `OUT`, front first (R30, R45). -/
  outBuf : List Byte
  /-- `STATUS` (R22, R23). -/
  status : Byte
  /-- `RESULT` (R22, R24). -/
  result : Nibble
  /-- `LOC_LEN` (R22, R25). -/
  locLen : Half
  /-- `DEC_CODE` (R22, R28). -/
  decCode : Byte
  /-- `DEC_BODY`, as a byte sequence of length `DEC_LEN` (R28, R29). -/
  decBody : List Byte
  /-- `DISP_KIND` (R22, R27). -/
  dispKind : BitVec 3
  /-- The parameters: what `CFG_IN_CAP`, `CFG_OUT_CAP`, `CFG_MAXCMD` and `CFG_MODE` read (R32), and the escape values
  (00_scope.md R8). No command changes them (R10). -/
  cfg : Params
  /-- `EVLOG` (R33). -/
  evlog : List Event
  /-- `FAULT`: empty, or the first model fault (R34). -/
  fault : Option Fault
  /-- The host's list of commands and resets (R21, R210): an input. -/
  host : List HostEvent
  /-- The index into the host's list (R21). -/
  pos : Nat
  /-- The response words returned to the host so far, oldest first (00_scope.md R13). -/
  responses : List Word
  /-- The collaborator's next answers to status-text requests (43_command_dispatcher.md R141): an input. -/
  answers : List (List Byte)
  /-- How many free values have been drawn: the model's own counter. -/
  draws : Nat
  deriving DecidableEq, Repr

/-- The power-on state of a block with parameters `p` (70_reset_and_hazards.md R203): what `reset()` of R200 leaves, with
an empty event log and no fault. No host event and no scripted answer has arrived (notes/assumptions/14.md). -/
def State.powerOn (p : Params) : State :=
  { inBuf := [], outBuf := [], status := 0x00#8, result := 0x0#4, locLen := 0#16, decCode := 0x00#8, decBody := [],
    dispKind := 0#3, cfg := p, evlog := [], fault := none, host := [], pos := 0, responses := [], answers := [],
    draws := 0 }

/-- The machine right after reset: the power-on state with the reference parameters (R203, 00_scope.md R8). -/
def State.reset : State := State.powerOn Params.reference

/-- The form of the two memories (20_memory.md R46): neither holds more bytes than its capacity. A memory is the list of
its bytes, so equal memories are equal data (notes/assumptions/16.md). -/
def Memory.wf (s : State) : Bool :=
  decide (s.inBuf.length ≤ s.cfg.inCap.toNat) && decide (s.outBuf.length ≤ s.cfg.outCap.toNat)

end Sys2Proof.Machine
end

