-- ==== Sys2Proof/Machine/Flags.lean ====
section
/-! DEFINITION. The encodings of the result codes (60_exceptions.md R181), of `DISP_KIND` (10_state.md R27) and of the
`STATUS` bits (R23), and reading and writing one `STATUS` bit. -/

namespace Sys2Proof.Machine

/-- The 4-bit value of a result code (R181). -/
def ResultCode.bits : ResultCode → Nibble
  | .ok => 0#4
  | .none => 1#4
  | .malformed => 2#4
  | .unrecognized => 3#4
  | .noCommand => 4#4
  | .overflow => 5#4
  | .illegal => 6#4

/-- The 3-bit value of a `DISP_KIND` (R27). -/
def DispKind.bits : DispKind → BitVec 3
  | .none => 0#3
  | .pass => 1#3
  | .ack => 2#3
  | .ackRes => 3#3
  | .nack => 4#3

/-- The bit number of a `STATUS` bit (R23). -/
def StatusBit.index : StatusBit → Nat
  | .locValid => 0
  | .decValid => 1
  | .malformed => 2
  | .inOvf => 3
  | .outOvf => 4
  | .illegal => 5

/-- Whether a `STATUS` bit is set. -/
def statusBit (st : Byte) (f : StatusBit) : Bool := st.getLsbD f.index

/-- `STATUS` with one bit written, and the seven others as they were. -/
def withStatusBit (st : Byte) (f : StatusBit) (v : Bool) : Byte :=
  if v then st ||| (1#8 <<< f.index) else st &&& ~~~(1#8 <<< f.index)

/-- Whether a `STATUS` bit of the state is set. -/
def State.flag (s : State) (f : StatusBit) : Bool := statusBit s.status f

/-- `STATUS.f <- v`. -/
def State.setFlag (s : State) (f : StatusBit) (v : Bool) : State := { s with status := withStatusBit s.status f v }

/-- `DISP_KIND <- k` (R27, 43_command_dispatcher.md R146). -/
def State.setDispKind (s : State) (k : DispKind) : State := { s with dispKind := k.bits }

/-- The four sticky bits of `STATUS`, which only `CLEAR_STATUS` and reset clear (R23). -/
def stickyBits : List StatusBit := [.malformed, .inOvf, .outOvf, .illegal]

/-- The result codes as a word's `RES` field: 30_encoding.md R67, bits 31:16 `DATA`, 15:4 zero, 3:0 `RES`. -/
def responseWord (code : ResultCode) (data : Half) : Word := data ++ 0#12 ++ code.bits

end Sys2Proof.Machine
end

