-- ==== Sys2Proof/Machine/Ops.lean ====
section
/-! DEFINITION. The four ring primitives with their model faults (20_memory.md R47 to R50) and the loops over them, how a
command ends (00_scope.md R15), what becomes of a model fault (60_exceptions.md R186), the decoded-command latch
(10_state.md R28), the capability port (43_command_dispatcher.md R140, R141), and the reset event
(70_reset_and_hazards.md R200). The block takes no exception and returns from none (60_exceptions.md R180, R188). -/

namespace Sys2Proof.Machine

/-! ### The ring primitives -/

/-- `Size(q)` (R47). -/
abbrev size (q : List Byte) : Nat := q.length

/-- `Peek(q, i)` (R48): the byte `i` places behind the front, or the fault `PeekOutOfRange`. -/
def peek (q : List Byte) (i : Nat) : Except Fault Byte :=
  match q[i]? with
  | some b => .ok b
  | none => .error .peekOutOfRange

/-- `PopFront(q)` (R49): `q` without its front, or the fault `PopEmpty`. -/
def popFront (q : List Byte) : Except Fault (List Byte) :=
  match q with
  | _ :: rest => .ok rest
  | [] => .error .popEmpty

/-- `PushBack(q, b)` on a buffer of capacity `cap` (R50), or the fault `PushFull` where there is no room
(notes/assumptions/7.md). -/
def pushBack (cap : Nat) (q : List Byte) (b : Byte) : Except Fault (List Byte) :=
  if size q < cap then .ok (q ++ [b]) else .error .pushFull

/-- `for j in 1 .. n: PopFront(q)`. -/
def popMany : Nat → List Byte → Except Fault (List Byte)
  | 0, q => .ok q
  | n + 1, q => popFront q >>= popMany n

/-- `[Peek(q, i), ..., Peek(q, i + n - 1)]`. -/
def peekMany (q : List Byte) (i : Nat) : Nat → Except Fault (List Byte)
  | 0 => .ok []
  | n + 1 => do
    let b ← peek q i
    let bs ← peekMany q (i + 1) n
    .ok (b :: bs)

/-- `for i in 0 .. |f| - 1: PushBack(q, f[i])`. -/
def pushMany (cap : Nat) (q : List Byte) : List Byte → Except Fault (List Byte)
  | [] => .ok q
  | b :: f => pushBack cap q b >>= fun q' => pushMany cap q' f

/-! ### How a command ends -/

/-- `response(code, data)` of R15: the response word goes to the host, `RESULT` is not written. -/
def State.respond (s : State) (code : ResultCode) (data : Half) : State :=
  { s with responses := s.responses ++ [responseWord code data] }

/-- `finish(code, data)` of R15: the response word goes to the host and `RESULT <- code`. -/
def State.finish (s : State) (code : ResultCode) (data : Half) : State :=
  { s with responses := s.responses ++ [responseWord code data], result := code.bits }

/-- The refusal of an encoding or an operand (45_poll_and_control.md R168, R169, R171, R172): `STATUS.ILLEGAL <- 1`, then
`finish(ILLEGAL, 0)`. -/
def State.refuseIllegal (s : State) : State := (s.setFlag .illegal true).finish .illegal 0#16

/-- A length as a 16-bit value. Every length the rules admit fits (00_scope.md R9; notes/assumptions/13.md). -/
def half (n : Nat) : Half := BitVec.ofNat 16 n

/-- `zext_16` of a byte (00_scope.md R14). -/
def zext16 (b : Byte) : Half := b.setWidth 16

/-- A model fault recorded: `FAULT` takes its name if it is empty (R34, R186). -/
def State.recordFault (s : State) (f : Fault) : State :=
  { s with fault := match s.fault with | some g => some g | none => some f }

/-- The state a command leaves: the one its pseudocode computes, or, where a primitive faulted, the state before the
command with the fault recorded (R186; notes/assumptions/7.md). -/
def settle (s : State) (m : Except Fault State) : State :=
  match m with
  | .ok t => t
  | .error f => s.recordFault f

/-! ### The locator's record and the decoded-command latch -/

/-- `STATUS.LOC_VALID <- 0; LOC_LEN <- 0` (10_state.md R25). -/
def State.clearLocated (s : State) : State :=
  { s with status := withStatusBit s.status .locValid false, locLen := 0#16 }

/-- `STATUS.LOC_VALID <- 1; LOC_LEN <- n` (41_frame_locator.md R100). -/
def State.setLocated (s : State) (n : Nat) : State :=
  { s with status := withStatusBit s.status .locValid true, locLen := half n }

/-- `STATUS.DEC_VALID <- 0; DEC_CODE <- 0x00; DEC_LEN <- 0` (43_command_dispatcher.md R132): the body becomes unreadable. -/
def State.discardLatch (s : State) : State :=
  { s with status := withStatusBit s.status .decValid false, decCode := 0x00#8, decBody := [] }

/-- `STATUS.DEC_VALID <- 1; DEC_CODE <- code; DEC_LEN <- |body|; DEC_BODY <- body` (42_frame_decoder.md R124). -/
def State.fillLatch (s : State) (code : Byte) (body : List Byte) : State :=
  { s with status := withStatusBit s.status .decValid true, decCode := code, decBody := body }

/-! ### The event log and the capability port -/

/-- `EVLOG <- EVLOG ++ [e]` (10_state.md R33). -/
def State.logEvent (s : State) (e : Event) : State := { s with evlog := s.evlog ++ [e] }

/-- The status text the collaborator answers next: the next scripted answer, or a free value (R141;
notes/assumptions/3.md). -/
def State.nextText (s : State) : List Byte :=
  match s.answers with
  | a :: _ => a
  | [] => Config.statusText s.draws

/-- The state once that answer is given: the scripted answer is used up, or the draw is counted. -/
def State.afterText (s : State) : State :=
  match s.answers with
  | _ :: rest => { s with answers := rest }
  | [] => { s with draws := s.draws + 1 }

/-- `Cap.Deploy()` (R140): the status text, and the state with the request logged. -/
def capDeploy (s : State) : List Byte × State := (s.nextText, s.afterText.logEvent (.capDeploy s.nextText))

/-- `Cap.ReportStatus()` (R140). -/
def capReportStatus (s : State) : List Byte × State := (s.nextText, s.afterText.logEvent (.capStatus s.nextText))

/-- `Cap.Halt()` (R140): no answer, and no register of the block changes (10_state.md R37). -/
def capHalt (s : State) : State := s.logEvent .capHalt

/-- `Cap.Beacon(text)` (R140). -/
def capBeacon (text : List Byte) (s : State) : State := s.logEvent (.capBeacon text)

/-! ### The host's events -/

/-- The host's next event: the one at the index, if the list reaches so far (10_state.md R21). -/
def fetch (s : State) : Option HostEvent := s.host[s.pos]?

/-- The index moves past one event (R21). -/
def State.advance (s : State) : State := { s with pos := s.pos + 1 }

/-- `reset()` (70_reset_and_hazards.md R200, R202): the buffers, the registers and the latch are emptied and `Reset` is
logged; the parameters, the earlier events and `FAULT` stay. -/
def State.resetEvent (s : State) : State :=
  { s with inBuf := [], outBuf := [], status := 0x00#8, result := ResultCode.bits .ok, locLen := 0#16,
           decCode := 0x00#8, decBody := [], dispKind := DispKind.bits .none, evlog := s.evlog ++ [.reset] }

end Sys2Proof.Machine
end

