-- ==== Sys2Proof/Machine/Operands.lean ====
section
/-! DEFINITION. The registers `READ` reaches, by number (10_state.md R22, R31, R32; 30_encoding.md R72, R73), each
zero-extended to 16 bits (45_poll_and_control.md R168). -/

namespace Sys2Proof.Machine

/-- `DEC_LEN`, the length of the latched body (R28, R29). -/
def State.decLen (s : State) : Half := half s.decBody.length

/-- `IN_COUNT`, a view of `Size(IN)` (R31). -/
def State.inCount (s : State) : Half := half (size s.inBuf)

/-- `OUT_COUNT`, a view of `Size(OUT)` (R31). -/
def State.outCount (s : State) : Half := half (size s.outBuf)

/-- `CFG_MODE`: bit 0 is `ESCAPE_MODE`, bits 7:1 are 0 (R22). -/
def State.cfgMode (s : State) : Byte :=
  match s.cfg.escapeMode with
  | .none => 0x00#8
  | .kiss => 0x01#8

/-- The register with number `n`, zero-extended, or nothing for the reserved numbers `0x0C` to `0xFF` (R72, R73). -/
def readRegister (s : State) (n : Byte) : Option Half :=
  match n.toNat with
  | 0x00 => some (s.status.setWidth 16)
  | 0x01 => some (s.result.setWidth 16)
  | 0x02 => some s.locLen
  | 0x03 => some (s.decCode.setWidth 16)
  | 0x04 => some s.decLen
  | 0x05 => some s.inCount
  | 0x06 => some s.outCount
  | 0x07 => some (s.dispKind.setWidth 16)
  | 0x08 => some s.cfg.inCap
  | 0x09 => some s.cfg.outCap
  | 0x0A => some s.cfg.maxCommandSize
  | 0x0B => some (s.cfgMode.setWidth 16)
  | _ => none

end Sys2Proof.Machine
end

