-- ==== Sys2Proof/Machine/Decoder.lean ====
section
/-! DEFINITION. The Frame Decoder: `Decode(n)` with its escape codec, and `DECODE` (42_frame_decoder.md). -/

namespace Sys2Proof.Machine

/-- `Unescape(r)` (R122), with the malformed escapes of R123: `FESC x` yields `x` where `x` is neither `TFEND` nor
`TFESC`, and a `FESC` at the end is dropped. -/
def unescape (p : Params) : List Byte → List Byte
  | [] => []
  | [b] => if b = p.fesc then [] else [b]
  | b :: x :: r =>
    if b = p.fesc then
      (if x = p.tfend then FEND else if x = p.tfesc then p.fesc else x) :: unescape p r
    else b :: unescape p (x :: r)

/-- The body a raw body stands for: itself without escaping (R121), unescaped with it (R122). -/
def decodeBody (p : Params) (raw : List Byte) : List Byte :=
  match p.escapeMode with
  | .none => raw
  | .kiss => unescape p raw

/-- `s[a..b)` (00_scope.md R14). -/
def slice (s : List Byte) (a b : Nat) : List Byte := (s.take b).drop a

/-- `Decode(n)` (R116 to R124): the state it leaves, and whether it returned `OK` (else `MALFORMED`). -/
def decodeFrame (n : Nat) (s : State) : Except Fault (State × Bool) :=
  if n < 2 ∨ n > size s.inBuf then
    .ok ((s.setFlag .malformed true).discardLatch, false)
  else do
    let raw ← peekMany s.inBuf 0 n
    let q ← popMany n s.inBuf
    let code ← peek raw 1
    let body := decodeBody s.cfg (slice raw 2 (n - 1))
    .ok ((({ s with inBuf := q } : State).fillLatch code body).clearLocated, true)

/-- `DECODE` (R115). -/
def execDecode (l : Half) (s : State) : Host.Outcome State Fault Refusal :=
  .next (settle s (do
    let (t, good) ← decodeFrame l.toNat s
    if good then .ok (t.finish .ok t.decLen) else .ok (t.finish .malformed 0#16)))

end Sys2Proof.Machine
end

