-- ==== Sys2Proof/Machine/Encoder.lean ====
section
/-! DEFINITION. The Frame Encoder: `Esc`, the frame builders, `Emit`, and `ENC_ACK`, `ENC_NACK`, `ENC_RES`
(44_frame_encoder.md; byte layouts 30_encoding.md R79 to R83). -/

namespace Sys2Proof.Machine

/-- How one byte of an escaped field is written (30_encoding.md R83). -/
def escapeByte (p : Params) (x : Byte) : List Byte :=
  if x = FEND then [p.fesc, p.tfend] else if x = p.fesc then [p.fesc, p.tfesc] else [x]

/-- `Esc(s)` (R154). -/
def esc (p : Params) (s : List Byte) : List Byte :=
  match p.escapeMode with
  | .none => s
  | .kiss => s.flatMap (escapeByte p)

/-- `AckFrame(c)` (R150). -/
def ackFrame (p : Params) (c : Byte) : List Byte := [FEND, 0x00#8, 0x41#8, 0x43#8, 0x4B#8] ++ esc p [c] ++ [FEND]

/-- `NackFrame(c)` (R151). -/
def nackFrame (p : Params) (c : Byte) : List Byte :=
  [FEND, 0x00#8, 0x4E#8, 0x41#8, 0x43#8, 0x4B#8] ++ esc p [c] ++ [FEND]

/-- `ResFrame(p)` (R152): the marker is four bytes (90_conflicts.md C1). -/
def resFrame (p : Params) (payload : List Byte) : List Byte :=
  [FEND, 0x00#8, 0x52#8, 0x45#8, 0x53#8] ++ esc p payload ++ [FEND]

/-- `PassFrame(c, b)` (R153): the code byte is not escaped. -/
def passFrame (p : Params) (c : Byte) (body : List Byte) : List Byte := [FEND, c] ++ esc p body ++ [FEND]

/-- `Emit(f)` (R155): the whole frame is appended to `OUT`, or none of it. The state it leaves, and whether it did. -/
def emit (f : List Byte) (s : State) : Except Fault (State × Bool) :=
  if size s.outBuf + f.length ≤ s.cfg.outCap.toNat then do
    let q ← pushMany s.cfg.outCap.toNat s.outBuf f
    .ok (({ s with outBuf := q } : State).logEvent (.frame f), true)
  else
    .ok ((s.setFlag .outOvf true).logEvent (.dropped f), false)

/-- `if Emit(f): finish(OK, d) else: finish(OVERFLOW, d)`, the end of every encode command (R156 to R158). -/
def emitAndFinish (f : List Byte) (d : Half) (s : State) : Except Fault State := do
  let (t, emitted) ← emit f s
  if emitted then .ok (t.finish .ok d) else .ok (t.finish .overflow d)

/-- `ENC_ACK` (R156). -/
def execEncAck (b : Byte) (s : State) : Host.Outcome State Fault Refusal :=
  .next (settle s (emitAndFinish (ackFrame s.cfg b) (half (ackFrame s.cfg b).length) s))

/-- `ENC_NACK` (R157). -/
def execEncNack (b : Byte) (s : State) : Host.Outcome State Fault Refusal :=
  .next (settle s (emitAndFinish (nackFrame s.cfg b) (half (nackFrame s.cfg b).length) s))

/-- `ENC_RES` (R158). `DATA` is the frame length; where that is more than 65535 the spec states no 16-bit value, and
`DATA` is a free one (notes/assumptions/4.md). -/
def execEncRes (s : State) : Host.Outcome State Fault Refusal :=
  .next (settle s
    (if s.flag .decValid then
      let f := resFrame s.cfg s.decBody
      if f.length < 65536 then emitAndFinish f (half f.length) s
      else emitAndFinish f (Config.wideFrameLength s.draws f.length) { s with draws := s.draws + 1 }
    else .ok (s.finish .noCommand 0#16)))

end Sys2Proof.Machine
end

