-- ==== Sys2Proof/Machine/Dispatcher.lean ====
section
/-! DEFINITION. The Command Dispatcher: the dispatch table (30_encoding.md R76 to R78), its arms (43_command_dispatcher.md
R133 to R139), the wire commands, and `DISPATCH` (R130). -/

namespace Sys2Proof.Machine

/-- The dispatch table (R76), an immutable mapping from code to descriptor (R133). -/
def dispatchTable : List (Byte × Descriptor) :=
  [(0x00#8, .passThrough),
   (0x07#8, .ackThenAction .beacon .maximum),
   (0x08#8, .ackThenAction .deployAntenna .none),
   (0x09#8, .ackThenAction .reportStatus .none),
   (0x0A#8, .ackThenAction .haltRadio .none)]

/-- The single entry whose code equals `c`, or the `Unknown` entry (R133; 00_scope.md R16 for its `case`; 30_encoding.md
R76 and R77). The escape codec has no part in it: a code byte equal to `FESC` is taken literally (42_frame_decoder.md
R128), so it is unrecognized but where R9 admits an `FESC` that is a listed code, 0x07 to 0x0A in KISS mode. There R128's
last clause contradicts R133, the spec has no ruling, and the model follows R133 (DESIGN CHOICE, unsafe for such
parameters; notes/assumptions/17.md). -/
def lookupCode (c : Byte) : Descriptor := (dispatchTable.lookup c).getD .unknown

/-- `if not Emit(f): dropped <- true` (R134 to R139). -/
def emitNoting (f : List Byte) (s : State) (dropped : Bool) : Except Fault (State × Bool) := do
  let (t, emitted) ← emit f s
  .ok (t, dropped || !emitted)

/-- The request an action makes on the capability port (R135 to R138, R140), and the status text it answers, if the
action produces data. The beacon text is the body cut to `MAXCOMMANDSIZE` bytes (R135); the other actions ignore the
body (R144). -/
def request (a : Action) (body : List Byte) (s : State) : Option (List Byte) × State :=
  match a with
  | .beacon => (none, capBeacon (body.take s.cfg.maxCommandSize.toNat) s)
  | .deployAntenna => (some (capDeploy s).1, (capDeploy s).2)
  | .reportStatus => (some (capReportStatus s).1, (capReportStatus s).2)
  | .haltRadio => (none, capHalt s)

/-- The arm of an `AckThenAction` entry (R135 to R138, R142): the ACK frame, the request, and the data Response where
the action answered one. Nothing is cancelled by a frame that does not fit (R143). -/
def ackThenActionArm (a : Action) (c : Byte) (body : List Byte) (s : State) : Except Fault (State × Bool) := do
  let (s₁, d₁) ← emitNoting (ackFrame s.cfg c) s false
  match request a body s₁ with
  | (none, s₂) => .ok (s₂.setDispKind .ack, d₁)
  | (some text, s₂) => do
    let (s₃, d₃) ← emitNoting (resFrame s₂.cfg text) s₂ d₁
    .ok (s₃.setDispKind .ackRes, d₃)

/-- The arm of the pass-through entry (R134). The copy is built from the latched code and body, not from `IN` (R148). -/
def passThroughArm (c : Byte) (body : List Byte) (s : State) : Except Fault (State × Bool) := do
  let (s₁, d) ← emitNoting (passFrame s.cfg c body) s false
  .ok (s₁.setDispKind .pass, d)

/-- The arm of the `Unknown` entry (R139): one NACK, no request. -/
def unknownArm (c : Byte) (s : State) : Except Fault (State × Bool) := do
  let (s₁, d) ← emitNoting (nackFrame s.cfg c) s false
  .ok (s₁.setDispKind .nack, d)

/-- The arm an entry runs (R133): the state it leaves and the flag `dropped`. -/
def runEntry (e : Descriptor) (c : Byte) (body : List Byte) (s : State) : Except Fault (State × Bool) :=
  match e with
  | .passThrough => passThroughArm c body s
  | .ackThenAction a _ => ackThenActionArm a c body s
  | .unknown => unknownArm c s

/-- `Result(c, dropped)` (R145). -/
def entryResult (e : Descriptor) (dropped : Bool) : ResultCode :=
  if dropped then .overflow else if e = .unknown then .unrecognized else .ok

/-- `res <- Dispatch(c, b); finish(res, data)` for the entry `e` (R133, R130, 45_poll_and_control.md R165). -/
def dispatchEntry (e : Descriptor) (c : Byte) (body : List Byte) (data : Half) (s : State) : Except Fault State := do
  let (t, dropped) ← runEntry e c body s
  .ok (t.finish (entryResult e dropped) data)

/-- Wire code 0x00 (R134), as `DISPATCH` executes it once the latch is discarded (notes/assumptions/8.md). -/
def execCodePassThrough (body : List Byte) (s : State) : Host.Outcome State Fault Refusal :=
  .next (settle s (dispatchEntry .passThrough 0x00#8 body (zext16 0x00#8) s))

/-- Wire code 0x07 (R135). -/
def execCodeBeacon (body : List Byte) (s : State) : Host.Outcome State Fault Refusal :=
  .next (settle s (dispatchEntry (.ackThenAction .beacon .maximum) 0x07#8 body (zext16 0x07#8) s))

/-- Wire code 0x08 (R136). -/
def execCodeDeployAntenna (body : List Byte) (s : State) : Host.Outcome State Fault Refusal :=
  .next (settle s (dispatchEntry (.ackThenAction .deployAntenna .none) 0x08#8 body (zext16 0x08#8) s))

/-- Wire code 0x09 (R137). -/
def execCodeReportStatus (body : List Byte) (s : State) : Host.Outcome State Fault Refusal :=
  .next (settle s (dispatchEntry (.ackThenAction .reportStatus .none) 0x09#8 body (zext16 0x09#8) s))

/-- Wire code 0x0A (R138). -/
def execCodeHaltRadio (body : List Byte) (s : State) : Host.Outcome State Fault Refusal :=
  .next (settle s (dispatchEntry (.ackThenAction .haltRadio .none) 0x0A#8 body (zext16 0x0A#8) s))

/-- Any other wire code (R139). -/
def execCodeUnrecognized (code : Byte) (body : List Byte) (s : State) : Host.Outcome State Fault Refusal :=
  .next (settle s (dispatchEntry .unknown code body (zext16 code) s))

/-- `DISPATCH` (R130 to R132): the latch is discarded before the entry runs. -/
def execDispatch (s : State) : Host.Outcome State Fault Refusal :=
  .next (settle s
    (if s.flag .decValid then
      dispatchEntry (lookupCode s.decCode) s.decCode s.decBody (zext16 s.decCode) s.discardLatch
    else .ok (s.finish .noCommand 0#16)))

end Sys2Proof.Machine
end

