-- ==== Sys2Proof/Machine/Locator.lean ====
section
/-! DEFINITION. The Frame Locator: `Locate()` in its five steps, and `LOCATE` (41_frame_locator.md). A loop that pops takes
the number of bytes present when it starts as its bound (R113). -/

namespace Sys2Proof.Machine

/-- Step 2 (R102): pop and drop bytes until the front byte is `FEND` or the buffer is empty. -/
def discardGarbage : Nat → List Byte → Except Fault (List Byte)
  | 0, q => .ok q
  | n + 1, q =>
    if size q > 0 then do
      let b ← peek q 0
      if b ≠ FEND then popFront q >>= discardGarbage n else .ok q
    else .ok q

/-- Step 3 (R103): while at least three bytes remain and the first two are both `FEND`, pop the front byte. -/
def collapseFends : Nat → List Byte → Except Fault (List Byte)
  | 0, q => .ok q
  | n + 1, q =>
    if size q ≥ 3 then do
      let b ← peek q 0
      let c ← peek q 1
      if b = FEND ∧ c = FEND then popFront q >>= collapseFends n else .ok q
    else .ok q

/-- Steps 5 and 6 (R105): the first `FEND` among the `n` bytes from index `i` on, as the frame length it ends. -/
def scanFend (q : List Byte) (i : Nat) : Nat → Except Fault (Option Nat)
  | 0 => .ok none
  | n + 1 => do
    let b ← peek q i
    if b = FEND then .ok (some (i + 1)) else scanFend q (i + 1) n

/-- `Locate()` (R101 to R105): `some n` for `FOUND(n)` and `none` for `NONE`, with the buffer it leaves. -/
def locate (q : List Byte) : Except Fault (Option Nat × List Byte) :=
  if size q = 0 then .ok (none, q)
  else do
    let q₂ ← discardGarbage (size q) q
    if size q₂ = 0 then .ok (none, q₂)
    else do
      let q₃ ← collapseFends (size q₂) q₂
      if size q₃ < 3 then .ok (none, q₃)
      else do
        let r ← scanFend q₃ 2 (size q₃ - 2)
        .ok (r, q₃)

/-- `LOCATE` (R100). -/
def execLocate (s : State) : Host.Outcome State Fault Refusal :=
  .next (settle s (do
    let (r, q) ← locate s.inBuf
    let s₁ : State := { s with inBuf := q }
    match r with
    | some n => .ok ((s₁.setLocated n).finish .ok (half n))
    | none => .ok (s₁.clearLocated.finish .none 0#16)))

end Sys2Proof.Machine
end

