-- ==== Sys2Proof/Machine/Control.lean ====
section
/-! DEFINITION. `POLL`, the control commands, and the refusal of reserved encodings (45_poll_and_control.md). -/

namespace Sys2Proof.Machine

/-- `c <- DEC_CODE; b <- DEC_BODY[0 .. DEC_LEN)`, the latch discarded, `res <- Dispatch(c, b); finish(res, data)`, as
`POLL` does it in both its branches (R165). -/
def dispatchLatched (data : Half) (s : State) : Except Fault State :=
  dispatchEntry (lookupCode s.decCode) s.decCode s.decBody data s.discardLatch

/-- `POLL` (R165, R166): a latched command is dispatched first, and then no frame is located. -/
def execPoll (s : State) : Host.Outcome State Fault Refusal :=
  .next (settle s
    (if s.flag .decValid then dispatchLatched 0#16 s
    else do
      let (r, q) ← locate s.inBuf
      let s₁ : State := { s with inBuf := q }
      match r with
      | none => .ok (s₁.clearLocated.finish .none 0#16)
      | some n => do
        let (s₂, _) ← decodeFrame n s₁
        dispatchLatched (half n) s₂))

/-- `NOP` (R167): `RESULT` is not written. -/
def execNop (s : State) : Host.Outcome State Fault Refusal := .next (s.respond .ok 0#16)

/-- `READ` (R168): `RESULT` is written only on failure (R173). -/
def execRead (b : Byte) (s : State) : Host.Outcome State Fault Refusal :=
  .next (match readRegister s b with
    | some v => s.respond .ok v
    | none => s.refuseIllegal)

/-- `READ_BODY` (R169): `RESULT` is written only on failure (R173). -/
def execReadBody (l : Half) (s : State) : Host.Outcome State Fault Refusal :=
  .next (match s.decBody[l.toNat]? with
    | some x => s.respond .ok (zext16 x)
    | none => s.refuseIllegal)

/-- `CLEAR_STATUS` (R170): the four sticky bits, and no live bit. -/
def execClearStatus (s : State) : Host.Outcome State Fault Refusal :=
  .next (((((s.setFlag .malformed false).setFlag .inOvf false).setFlag .outOvf false).setFlag .illegal false).finish
    .ok 0#16)

/-- A word with `RSV = 0` and `OP = 0xE` (R171). -/
def execReservedOpE (s : State) : Host.Outcome State Fault Refusal := .next s.refuseIllegal

/-- A word with `RSV = 0` and `OP = 0xF` (R171). -/
def execReservedOpF (s : State) : Host.Outcome State Fault Refusal := .next s.refuseIllegal

/-- A word with `RSV != 0`, whatever its `OP` (R172). -/
def execReservedRsv (s : State) : Host.Outcome State Fault Refusal := .next s.refuseIllegal

end Sys2Proof.Machine
end

