-- ==== Sys2Proof/Machine/Ring.lean ====
section
/-! DEFINITION. The host's port to the buffers: `PUSH_IN`, `POP_OUT`, `DROP_IN` (40_ring_buffer.md). -/

namespace Sys2Proof.Machine

/-- `PUSH_IN` (R90). -/
def execPushIn (b : Byte) (s : State) : Host.Outcome State Fault Refusal :=
  .next (settle s
    (if size s.inBuf < s.cfg.inCap.toNat then do
      let q ← pushBack s.cfg.inCap.toNat s.inBuf b
      .ok (({ s with inBuf := q } : State).finish .ok 0#16)
    else
      .ok ((s.setFlag .inOvf true).finish .overflow 0#16)))

/-- `POP_OUT` (R91). -/
def execPopOut (s : State) : Host.Outcome State Fault Refusal :=
  .next (settle s
    (if size s.outBuf > 0 then do
      let b ← peek s.outBuf 0
      let q ← popFront s.outBuf
      .ok (({ s with outBuf := q } : State).finish .ok (zext16 b))
    else
      .ok (s.finish .none 0#16)))

/-- `DROP_IN` (R92). -/
def execDropIn (l : Half) (s : State) : Host.Outcome State Fault Refusal :=
  .next (settle s (do
    let k := min l.toNat (size s.inBuf)
    let q ← popMany k s.inBuf
    .ok ((({ s with inBuf := q } : State).clearLocated).finish .ok (half k))))

end Sys2Proof.Machine
end

