-- ==== Sys2Proof/Machine/Dispatch.lean ====
section
/-! DEFINITION. exec: one arm per constructor of Instr, each one direct call of its meaning. An operand a command does
not use is not passed on (30_encoding.md R66). -/
namespace Sys2Proof.Machine

def exec (i : Instr) (s : State) : Host.Outcome State Fault Refusal :=
  match i with
  | .nop _ _ => Sys2Proof.Machine.execNop s
  | .pushIn b _ => Sys2Proof.Machine.execPushIn b s
  | .popOut _ _ => Sys2Proof.Machine.execPopOut s
  | .dropIn _ l => Sys2Proof.Machine.execDropIn l s
  | .locate _ _ => Sys2Proof.Machine.execLocate s
  | .decode _ l => Sys2Proof.Machine.execDecode l s
  | .dispatch _ _ => Sys2Proof.Machine.execDispatch s
  | .encAck b _ => Sys2Proof.Machine.execEncAck b s
  | .encNack b _ => Sys2Proof.Machine.execEncNack b s
  | .encRes _ _ => Sys2Proof.Machine.execEncRes s
  | .poll _ _ => Sys2Proof.Machine.execPoll s
  | .read b _ => Sys2Proof.Machine.execRead b s
  | .readBody _ l => Sys2Proof.Machine.execReadBody l s
  | .clearStatus _ _ => Sys2Proof.Machine.execClearStatus s
  | .reservedOpE _ _ => Sys2Proof.Machine.execReservedOpE s
  | .reservedOpF _ _ => Sys2Proof.Machine.execReservedOpF s
  | .reservedRsv _ _ _ _ => Sys2Proof.Machine.execReservedRsv s
  -- the wire command codes
  | .codePassThrough body => Sys2Proof.Machine.execCodePassThrough body s
  | .codeBeacon body => Sys2Proof.Machine.execCodeBeacon body s
  | .codeDeployAntenna body => Sys2Proof.Machine.execCodeDeployAntenna body s
  | .codeReportStatus body => Sys2Proof.Machine.execCodeReportStatus body s
  | .codeHaltRadio body => Sys2Proof.Machine.execCodeHaltRadio body s
  | .codeUnrecognized code body => Sys2Proof.Machine.execCodeUnrecognized code body s

end Sys2Proof.Machine
end

