-- ==== Sys2Proof/Machine/Step.lean ====
section
/-! DEFINITION. One step of a run: one host event (10_state.md R21, 70_reset_and_hazards.md R210), and how a table row is
put where the step takes its next instruction. -/

namespace Sys2Proof.Machine

/-- One step. A run whose `FAULT` is set has stopped (60_exceptions.md R186). Otherwise the host's next event happens:
a command word is decoded and executed, or the block is reset (R200), and the index moves on by one (R21). Where the
host has issued nothing more, the block holds its state (R196; notes/assumptions/5.md). -/
def step (s : State) : Host.Outcome State Fault Refusal :=
  match s.fault with
  | some f => .fault f
  | none =>
    match fetch s with
    | none => .next s
    | some .reset => .next s.resetEvent.advance
    | some (.command w) =>
      match exec (decode (.word w)) s with
      | .next t => .next t.advance
      | .fault f => .fault f
      | .refused r => .refused r

/-- The host's list with `e` at index `pos`. An index past the end of the list, which no run reaches, is reached by
`NOP` words. -/
def placeEvent (host : List HostEvent) (pos : Nat) (e : HostEvent) : List HostEvent :=
  host.take pos ++ List.replicate (pos - host.length) (.command 0x00000000#32) ++ e :: host.drop (pos + 1)

/-- `s` with the host's next event the command word `w`. -/
def State.withCommand (s : State) (w : Word) : State := { s with host := placeEvent s.host s.pos (.command w) }

/-- `s` with a table row's bits where the next step takes its instruction. A command word is the host's next event. A
wire command code is latched as a decoded command with an empty body, and the host's next event is the `DISPATCH` that
executes it (notes/assumptions/9.md). -/
def State.withFetchWord (s : State) (nbits w : Nat) : State :=
  match nbits with
  | 8 => (s.fillLatch (BitVec.ofNat 8 w) []).withCommand 0x00000006#32
  | _ => s.withCommand (BitVec.ofNat 32 w)

end Sys2Proof.Machine
end

