-- ==== Sys2Proof/Safety.lean ====
section
/-! DEFINITION. What the statements say of a run: the layout of a response word, what emitting a frame comes to, which
events are requests, and the invariants the spec gives for every reachable state. -/

namespace Sys2Proof.Machine

/-- A response word by its fields: `DATA` in bits 31:16, zero in 15:4, `RES` in 3:0 (30_encoding.md R67). -/
def answer (data : Half) (res : Nibble) : Word := data ++ 0#12 ++ res

/-- Whether a frame fits in `OUT` (44_frame_encoder.md R155). -/
def State.fits (s : State) (f : List Byte) : Bool := decide (s.outBuf.length + f.length ≤ s.cfg.outCap.toNat)

/-- The state after one attempt to emit `f` (R155): the whole frame at the back of `OUT`, or `OUT_OVF` and nothing of it;
`EVLOG` says which. -/
def State.afterFrame (s : State) (f : List Byte) : State :=
  if s.fits f then { s with outBuf := s.outBuf ++ f, evlog := s.evlog ++ [.frame f] }
  else { s with status := s.status ||| 0x10#8, evlog := s.evlog ++ [.dropped f] }

/-- The events of the capability port (43_command_dispatcher.md R140). -/
def Event.isRequest : Event → Bool
  | .capDeploy _ | .capStatus _ | .capHalt | .capBeacon _ => true
  | .frame _ | .dropped _ | .reset => false

/-- The frame an emission attempted, done or dropped (44_frame_encoder.md R155). -/
def Event.attempted : Event → Option (List Byte)
  | .frame f | .dropped f => some f
  | .capDeploy _ | .capStatus _ | .capHalt | .capBeacon _ | .reset => none

/-- The event of a dropped frame (R155). -/
def Event.isDrop : Event → Bool
  | .dropped _ => true
  | .frame _ | .capDeploy _ | .capStatus _ | .capHalt | .capBeacon _ | .reset => false

/-- What every reachable state keeps. -/
structure State.Inv (s : State) : Prop where
  /-- The parameters meet 00_scope.md R9. -/
  params : s.cfg.wf = true
  /-- 20_memory.md R46. -/
  memory : Memory.wf s = true
  /-- `STATUS` bits 7:6 read 0 (10_state.md R23). -/
  statusReserved : s.status.extractLsb' 6 2 = 0#2
  /-- `RESULT` holds no reserved code (60_exceptions.md R181). -/
  resultLegal : s.result.toNat ≤ 6
  /-- `DISP_KIND` holds no reserved value (10_state.md R27). -/
  dispKindLegal : s.dispKind.toNat ≤ 4
  /-- `LOC_LEN` is 0 whenever `LOC_VALID = 0` (R25). -/
  notLocated : s.flag .locValid = false → s.locLen = 0#16
  /-- `LOC_VALID = 1` names a frame at the front of `IN` (R25). -/
  located : s.flag .locValid = true →
    3 ≤ s.locLen.toNat ∧ s.locLen.toNat ≤ s.inBuf.length ∧ s.inBuf[0]? = some FEND ∧
      s.inBuf[s.locLen.toNat - 1]? = some FEND
  /-- `DEC_VALID = 0` means an empty latch (R29). -/
  notLatched : s.flag .decValid = false → s.decBody = [] ∧ s.decCode = 0x00#8
  /-- The latched body is at most `IN_CAP - 3` bytes (R29, 42_frame_decoder.md R127). -/
  bodyFits : s.decBody.length ≤ s.cfg.inCap.toNat - 3
  /-- No model fault (60_exceptions.md R186). -/
  noFault : s.fault = none

end Sys2Proof.Machine
end

