-- ==== Sys2Proof/Certificates/Slice0/Obligations.lean ====
section
/-! DEFINITION. The statements about the model. Each docstring names the rule of spec/ it formalises. -/

open Sys2Proof Sys2Proof.Machine

/-! ### Encoding -/

/-- R65, R68 to R70, R76: no bit of a well-formed instruction is lost by encoding it. -/
def Obligations.DecodeOfEncodeIsTheInstruction : Prop :=
  ∀ i : Instr, i.wf = true → decode (encode i) = i

/-- R68, R71, R76, R77: every word and every wire command has one instruction, whose encoding it is. -/
def Obligations.EncodeOfDecodeIsTheEncoding : Prop :=
  ∀ e : Encoded, (decode e).wf = true ∧ encode (decode e) = e

/-- R71, with the field places of R65 and the operation map of R68: `RSV` is looked at before `OP`, every word is decoded,
and a word of rule R69 or R70 is refused. -/
def Obligations.EveryWordDecodesInThreeSteps : Prop :=
  ∀ w : Word,
    let op := w.toNat % 2 ^ 4
    let rsv := w.toNat / 2 ^ 4 % 2 ^ 4
    let b : Byte := BitVec.ofNat 8 (w.toNat / 2 ^ 8)
    let l : Half := BitVec.ofNat 16 (w.toNat / 2 ^ 16)
    (rsv ≠ 0 → decode (.word w) = .reservedRsv (BitVec.ofNat 4 op) (BitVec.ofNat 4 rsv) b l) ∧
    (rsv = 0 →
      [Instr.nop b l, .pushIn b l, .popOut b l, .dropIn b l, .locate b l, .decode b l, .dispatch b l, .encAck b l,
        .encNack b l, .encRes b l, .poll b l, .read b l, .readBody b l, .clearStatus b l, .reservedOpE b l,
        .reservedOpF b l][op]? = some (decode (.word w))) ∧
    (rsv ≠ 0 ∨ op = 0xE ∨ op = 0xF → ∀ s : State, exec (decode (.word w)) s = .next { s with
      status := s.status ||| 0x20#8, result := 6#4, responses := s.responses ++ [0x00000006#32] })

/-- R65, R68, R171, R172, R76: a few words written out from the spec's encodings. -/
def Obligations.SampleWordsDecode : Prop :=
  decode (.word 0x0000C001#32) = .pushIn 0xC0#8 0#16 ∧
  decode (.word 0x00050005#32) = .decode 0x00#8 5#16 ∧
  decode (.word 0x0000FF08#32) = .encNack 0xFF#8 0#16 ∧
  decode (.word 0x0004000C#32) = .readBody 0x00#8 4#16 ∧
  decode (.word 0x000000F0#32) = .reservedRsv 0x0#4 0xF#4 0x00#8 0#16 ∧
  decode (.wire 0x07#8 [0x41#8]) = .codeBeacon [0x41#8] ∧
  decode (.wire 0xC0#8 []) = .codeUnrecognized 0xC0#8 []

/-! ### The run -/

/-- R21, R60, R71: the step at a command word is exec of the decoded instruction, and the index moves on by one. -/
def Obligations.StepRunsTheDecodedCommand : Prop :=
  ∀ (s : State) (w : Word), s.fault = none → fetch s = some (.command w) →
    step s = (match exec (decode (.word w)) s with
      | .next t => .next { t with pos := t.pos + 1 }
      | .fault f => .fault f
      | .refused r => .refused r)

/-- R200, R202: what a reset does, and that it returns no response word. Where the index goes is left open. -/
def Obligations.ResetEmptiesTheBlock : Prop :=
  ∀ s : State, s.fault = none → fetch s = some .reset →
    ∃ n, step s = .next { s with
      inBuf := [], outBuf := [], status := 0x00#8, result := 0x0#4, locLen := 0#16, decCode := 0x00#8, decBody := [],
      dispKind := 0#3, evlog := s.evlog ++ [.reset], pos := n }

/-- R196. That an exhausted list of host events stands for 'no command or reset arrives' is the model's choice
(notes/assumptions/5.md). -/
def Obligations.IdleBlockHoldsItsState : Prop :=
  ∀ s : State, s.fault = none → fetch s = none → step s = .next s

/-- R21. That a reset, too, moves the index is the model's choice (notes/assumptions/6.md). -/
def Obligations.StepAdvancesTheIndexByOne : Prop :=
  ∀ (s : State) (e : HostEvent), s.fault = none → fetch s = some e →
    ∃ t, step s = .next t ∧ t.pos = s.pos + 1 ∧ t.host = s.host

/-- R186, R112: no step sets `FAULT`, and none stops, from any state whose `FAULT` is empty. -/
def Obligations.NoStepReachesAModelFault : Prop :=
  ∀ s : State, s.fault = none → ∃ t, step s = .next t ∧ t.fault = none

/-- R67, R180, R181: every instruction completes in every state, with one response word: a result code that is not
reserved, twelve zero bits and `DATA`. That a wire command ends as `DISPATCH` ends is the model's choice
(notes/assumptions/8.md). -/
def Obligations.EveryInstructionReturnsOneResponseWord : Prop :=
  ∀ (i : Instr) (s : State), ∃ (t : State) (data : Half) (res : Nibble),
    exec i s = .next t ∧ t.responses = s.responses ++ [answer data res] ∧ res.toNat ≤ 6 ∧ t.fault = s.fault

/-- R10, R32: no command and no reset changes a parameter. -/
def Obligations.ParametersNeverChange : Prop :=
  ∀ s t : State, step s = .next t → t.cfg = s.cfg

/-- R51: the buffers' writers and readers. Only `PUSH_IN` writes `IN`, and every other change of it takes bytes off the
front; only `POP_OUT` takes from `OUT`, and every other change of it adds at the back. -/
def Obligations.BuffersHaveFixedProducersAndConsumers : Prop :=
  ∀ (w : Word) (s t : State), exec (decode (.word w)) s = .next t →
    (match decode (.word w) with
      | .pushIn b _ => t.inBuf = s.inBuf ∨ t.inBuf = s.inBuf ++ [b]
      | .locate _ _ | .decode _ _ | .poll _ _ | .dropIn _ _ => t.inBuf <:+ s.inBuf
      | _ => t.inBuf = s.inBuf) ∧
    (match decode (.word w) with
      | .popOut _ _ => t.outBuf <:+ s.outBuf
      | .dispatch _ _ | .poll _ _ | .encAck _ _ | .encNack _ _ | .encRes _ _ => s.outBuf <+: t.outBuf
      | _ => t.outBuf = s.outBuf)

/-- R33: `EVLOG` is only ever appended to, by a reset too. -/
def Obligations.EventLogOnlyGrows : Prop :=
  ∀ s t : State, step s = .next t → s.evlog <+: t.evlog

/-- R46, R25, R29, R23, R27, R181, R9, R186: the invariants hold after a step from any state in which they hold. -/
def Obligations.EveryStepKeepsTheInvariants : Prop :=
  ∀ s t : State, s.Inv → step s = .next t → t.Inv

/-- The state after reset meets them. -/
def Obligations.ResetStateMeetsTheInvariants : Prop :=
  State.reset.Inv

/-- R203: the power-on state, whatever the parameters: what `reset()` leaves, with an empty log and no fault; and the
machine starts in it. -/
def Obligations.PowerOnIsTheResetStateWithEmptyLog : Prop :=
  (∀ (p : Params) (s : State), s.cfg = p →
    let t := State.powerOn p
    let r := s.resetEvent
    t.inBuf = r.inBuf ∧ t.outBuf = r.outBuf ∧ t.status = r.status ∧ t.result = r.result ∧ t.locLen = r.locLen ∧
    t.decCode = r.decCode ∧ t.decLen = r.decLen ∧ t.dispKind = r.dispKind ∧ t.cfg = r.cfg ∧
    t.inBuf = [] ∧ t.outBuf = [] ∧ t.status = 0x00#8 ∧ t.result = 0x0#4 ∧ t.locLen = 0#16 ∧ t.decCode = 0x00#8 ∧
    t.decLen = 0#16 ∧ t.dispKind = 0#3 ∧ t.evlog = [] ∧ t.fault = none) ∧
  ∃ p, State.reset = State.powerOn p

/-! ### The control commands -/

/-- R167. -/
def Obligations.NopOnlyReturnsOk : Prop :=
  ∀ (b : Byte) (l : Half) (s : State),
    decode (.word (packWord 0x0#4 0x0#4 b l)) = .nop b l ∧
    exec (.nop b l) s = .next { s with responses := s.responses ++ [0x00000000#32] }

/-- R168, with the registers of R22, R31 and R32 by number: `RESULT` is written only on failure. The premises hold by
R9, R29 and R46. -/
def Obligations.ReadReturnsTheNumberedRegister : Prop :=
  ∀ (b : Byte) (l : Half) (s : State),
    s.inBuf.length ≤ 65535 → s.outBuf.length ≤ 65535 → s.decBody.length ≤ 65535 →
    decode (.word (packWord 0xB#4 0x0#4 b l)) = .read b l ∧
    (∀ v, [s.status.setWidth 16, s.result.setWidth 16, s.locLen, s.decCode.setWidth 16,
        BitVec.ofNat 16 s.decBody.length, BitVec.ofNat 16 s.inBuf.length, BitVec.ofNat 16 s.outBuf.length,
        s.dispKind.setWidth 16, s.cfg.inCap, s.cfg.outCap, s.cfg.maxCommandSize,
        if s.cfg.escapeMode = .kiss then 1#16 else 0#16][b.toNat]? = some v →
      exec (.read b l) s = .next { s with responses := s.responses ++ [answer v 0#4] }) ∧
    (0x0C ≤ b.toNat →
      exec (.read b l) s = .next { s with
        status := s.status ||| 0x20#8, result := 6#4, responses := s.responses ++ [0x00000006#32] })

/-- R169. -/
def Obligations.ReadBodyReturnsTheIndexedByte : Prop :=
  ∀ (b : Byte) (l : Half) (s : State),
    decode (.word (packWord 0xC#4 0x0#4 b l)) = .readBody b l ∧
    (∀ x, s.decBody[l.toNat]? = some x →
      exec (.readBody b l) s = .next { s with responses := s.responses ++ [answer (x.setWidth 16) 0#4] }) ∧
    (s.decBody.length ≤ l.toNat →
      exec (.readBody b l) s = .next { s with
        status := s.status ||| 0x20#8, result := 6#4, responses := s.responses ++ [0x00000006#32] })

/-- R170: bits 2 to 5 of `STATUS` are cleared, and no other bit. -/
def Obligations.ClearStatusClearsTheStickyBits : Prop :=
  ∀ (b : Byte) (l : Half) (s : State),
    decode (.word (packWord 0xD#4 0x0#4 b l)) = .clearStatus b l ∧
    exec (.clearStatus b l) s = .next { s with
      status := s.status &&& 0xC3#8, result := 0#4, responses := s.responses ++ [0x00000000#32] }

/-- R171, R172: a reserved word sets `ILLEGAL`, answers `ILLEGAL` and does nothing else. -/
def Obligations.ReservedWordsAreRefused : Prop :=
  ∀ (i : Instr) (b : Byte) (l : Half) (op rsv : Nibble) (s : State),
    i = .reservedOpE b l ∨ i = .reservedOpF b l ∨ i = .reservedRsv op rsv b l →
      exec i s = .next { s with
        status := s.status ||| 0x20#8, result := 6#4, responses := s.responses ++ [0x00000006#32] }

/-- R183, R23: a sticky bit once set stays set under every command but `CLEAR_STATUS`, which clears it, as a reset does;
and it is set only by a command that answers `MALFORMED`, `OVERFLOW` or `ILLEGAL`. -/
def Obligations.StickyBitsComeFromErrorsAndStayUntilCleared : Prop :=
  ∀ (w : Word) (s t : State) (f : StatusBit), f = .malformed ∨ f = .inOvf ∨ f = .outOvf ∨ f = .illegal →
    exec (decode (.word w)) s = .next t →
    (s.flag f = true → (∀ b l, decode (.word w) ≠ .clearStatus b l) → t.flag f = true) ∧
    (s.flag f = false → t.flag f = true → t.result = 2#4 ∨ t.result = 5#4 ∨ t.result = 6#4) ∧
    ((∃ b l, decode (.word w) = .clearStatus b l) → t.flag f = false) ∧ s.resetEvent.flag f = false

/-- R173, R24: `RESULT` takes the result code of every command but a successful `NOP`, `READ` or `READ_BODY`, and
`ILLEGAL` from a refused word. -/
def Obligations.ResultIsWrittenByAllButSuccessfulReads : Prop :=
  ∀ (w : Word) (s : State), ∃ (t : State) (data : Half) (res : Nibble),
    exec (decode (.word w)) s = .next t ∧ t.responses = s.responses ++ [answer data res] ∧
    (match decode (.word w) with
      | .nop _ _ => res = 0#4 ∧ t.result = s.result
      | .read _ _ | .readBody _ _ => (res = 0#4 ∧ t.result = s.result) ∨ (res = 6#4 ∧ t.result = 6#4)
      | .reservedOpE _ _ | .reservedOpF _ _ | .reservedRsv _ _ _ _ => res = 6#4 ∧ t.result = 6#4
      | _ => t.result = res)

/-! ### The ring port -/

/-- R90. -/
def Obligations.PushInAppendsOneByteOrOverflows : Prop :=
  ∀ (b : Byte) (l : Half) (s : State),
    decode (.word (packWord 0x1#4 0x0#4 b l)) = .pushIn b l ∧
    (s.inBuf.length < s.cfg.inCap.toNat →
      exec (.pushIn b l) s = .next { s with
        inBuf := s.inBuf ++ [b], result := 0#4, responses := s.responses ++ [0x00000000#32] } ∧
      peek (s.inBuf ++ [b]) (size s.inBuf) = .ok b ∧
      ∀ i, i ≠ size s.inBuf → peek (s.inBuf ++ [b]) i = peek s.inBuf i) ∧
    (s.cfg.inCap.toNat ≤ s.inBuf.length →
      exec (.pushIn b l) s = .next { s with
        status := s.status ||| 0x08#8, result := 5#4, responses := s.responses ++ [0x00000005#32] })

/-- R91. -/
def Obligations.PopOutReturnsTheFrontByte : Prop :=
  ∀ (b : Byte) (l : Half) (s : State),
    decode (.word (packWord 0x2#4 0x0#4 b l)) = .popOut b l ∧
    (∀ x rest, s.outBuf = x :: rest →
      exec (.popOut b l) s = .next { s with
        outBuf := rest, result := 0#4, responses := s.responses ++ [answer (x.setWidth 16) 0#4] }) ∧
    (s.outBuf = [] →
      exec (.popOut b l) s = .next { s with result := 1#4, responses := s.responses ++ [0x00000001#32] })

/-- R92. -/
def Obligations.DropInDiscardsFromTheFront : Prop :=
  ∀ (b : Byte) (l : Half) (s : State),
    decode (.word (packWord 0x3#4 0x0#4 b l)) = .dropIn b l ∧
    exec (.dropIn b l) s = .next { s with
      inBuf := s.inBuf.drop l.toNat, status := s.status &&& 0xFE#8, locLen := 0#16, result := 0#4,
      responses := s.responses ++ [answer (BitVec.ofNat 16 (min l.toNat s.inBuf.length)) 0#4] }

/-! ### The Frame Locator -/

/-- R110, R112: `Locate()` reaches no fault, leaves a suffix of the buffer, and its answer and what it leaves are as R110
lists them. -/
def Obligations.LocateAnswersTheFirstFrame : Prop :=
  ∀ q : List Byte, ∃ r q', locate q = .ok (r, q') ∧ q' <:+ q ∧ (q' ≠ [] → q'[0]? = some FEND) ∧
    (∀ n, r = some n →
      3 ≤ n ∧ n ≤ q'.length ∧ q'[1]? ≠ some FEND ∧ q'[n - 1]? = some FEND ∧
      ∀ i, 2 ≤ i → i < n - 1 → q'[i]? ≠ some FEND) ∧
    (r = none →
      q' = [] ∨ q'.length < 3 ∨
      (3 ≤ q'.length ∧ q'[1]? ≠ some FEND ∧ ∀ i, 2 ≤ i → q'[i]? ≠ some FEND))

/-- R111. -/
def Obligations.LocateIsIdempotent : Prop :=
  ∀ (q q' : List Byte) (r : Option Nat), locate q = .ok (r, q') → locate q' = .ok (r, q')

/-- R108, with R102, R103 and R105: of any buffer, the bytes before the first `FEND` and the surplus leading delimiters
are removed and no other byte; and a frame behind them is found, with the bytes after it left alone. -/
def Obligations.LocateRemovesOnlyGarbageAndSurplusFends : Prop :=
  (∀ (junk rest : List Byte) (m : Nat), FEND ∉ junk → rest[0]? ≠ some FEND → (m = 0 → rest = []) →
    ∃ r, locate (junk ++ List.replicate m FEND ++ rest) =
      .ok (r, List.replicate (if rest = [] then min m 2 else 1) FEND ++ rest)) ∧
  (∀ (junk body rest : List Byte) (m : Nat) (c : Byte), FEND ∉ junk → c ≠ FEND → FEND ∉ body →
    locate (junk ++ List.replicate (m + 1) FEND ++ c :: body ++ FEND :: rest) =
      .ok (some (body.length + 3), FEND :: c :: body ++ FEND :: rest))

/-- R106: of a buffer of delimiters only, at most two are left, and `NONE` is answered. -/
def Obligations.FendOnlyBufferYieldsNone : Prop :=
  ∀ m : Nat, locate (List.replicate m FEND) = .ok (none, List.replicate (min m 2) FEND)

/-- R100, R109: `LOCATE` records what `Locate()` answers and changes nothing else. The premise holds by R9 and R46. -/
def Obligations.LocateCommandRecordsTheFrameLength : Prop :=
  ∀ (b : Byte) (l : Half) (s : State), s.inBuf.length ≤ 65535 →
    decode (.word (packWord 0x4#4 0x0#4 b l)) = .locate b l ∧ ∃ r q, locate s.inBuf = .ok (r, q) ∧
    exec (.locate b l) s = .next (match r with
      | some n => { s with
          inBuf := q, status := s.status ||| 0x01#8, locLen := BitVec.ofNat 16 n, result := 0#4,
          responses := s.responses ++ [answer (BitVec.ofNat 16 n) 0#4] }
      | none => { s with
          inBuf := q, status := s.status &&& 0xFE#8, locLen := 0#16, result := 1#4,
          responses := s.responses ++ [0x00000001#32] })

/-! ### The Frame Decoder -/

/-- R117 to R119, R121, R122, R124: a `DECODE` within the buffer pops `L` bytes and latches the code and the body. -/
def Obligations.DecodeLatchesCodeAndBody : Prop :=
  ∀ (b : Byte) (l : Half) (s : State) (c : Byte), 2 ≤ l.toNat → l.toNat ≤ s.inBuf.length → s.inBuf[1]? = some c →
    let raw := (s.inBuf.take (l.toNat - 1)).drop 2
    let body := if s.cfg.escapeMode = .kiss then unescape s.cfg raw else raw
    exec (.decode b l) s = .next { s with
      inBuf := s.inBuf.drop l.toNat, status := (s.status ||| 0x02#8) &&& 0xFE#8, locLen := 0#16, decCode := c,
      decBody := body, result := 0#4, responses := s.responses ++ [answer (BitVec.ofNat 16 body.length) 0#4] }

/-- R116, R115: a length below 2 or past the buffer fails, empties the latch and leaves `IN` alone. -/
def Obligations.DecodeOfABadLengthIsMalformed : Prop :=
  ∀ (b : Byte) (l : Half) (s : State), l.toNat < 2 ∨ s.inBuf.length < l.toNat →
    exec (.decode b l) s = .next { s with
      status := (s.status ||| 0x04#8) &&& 0xFD#8, decCode := 0x00#8, decBody := [], result := 2#4,
      responses := s.responses ++ [0x00000002#32] }

/-- R126: `DECODE` of the length `LOCATE` has just found succeeds, and the raw body holds no `FEND`; so `POLL` never sets
`MALFORMED`. -/
def Obligations.DecodeOfALocatedLengthSucceeds : Prop :=
  ∀ (b b' : Byte) (l : Half) (s t : State), s.inBuf.length ≤ 65535 → exec (.locate b l) s = .next t →
    t.flag .locValid = true →
    FEND ∉ (t.inBuf.take (t.locLen.toNat - 1)).drop 2 ∧
    (∃ u, exec (.decode b' t.locLen) t = .next u ∧ u.result = 0#4 ∧ u.flag .decValid = true ∧
      u.flag .malformed = s.flag .malformed ∧ u.inBuf = t.inBuf.drop t.locLen.toNat) ∧
    ∃ v, exec (.poll b l) s = .next v ∧ v.flag .malformed = s.flag .malformed

/-- R122, R123: the body in KISS mode, and the codec byte by byte, with the two malformed escapes. -/
def Obligations.UnescapeTreatsEachEscapeAsStated : Prop :=
  ∀ (p : Params) (r : List Byte),
    (p.escapeMode = .kiss → decodeBody p r = unescape p r) ∧
    unescape p [] = [] ∧
    (∀ x, x ≠ p.fesc → unescape p (x :: r) = x :: unescape p r) ∧
    unescape p (p.fesc :: p.tfend :: r) = FEND :: unescape p r ∧
    (p.tfesc ≠ p.tfend → unescape p (p.fesc :: p.tfesc :: r) = p.fesc :: unescape p r) ∧
    (∀ x, x ≠ p.tfend → x ≠ p.tfesc → unescape p (p.fesc :: x :: r) = x :: unescape p r) ∧
    unescape p [p.fesc] = []

/-- R154: `Esc` byte by byte; in KISS mode `Unescape` undoes it, and it leaves no `FEND`. -/
def Obligations.UnescapeInvertsEscape : Prop :=
  ∀ (p : Params) (s : List Byte), p.wf = true →
    (p.escapeMode = .none → esc p s = s) ∧
    (p.escapeMode = .kiss →
      esc p [] = [] ∧
      (∀ x, esc p (x :: s) =
        (if x = FEND then [p.fesc, p.tfend] else if x = p.fesc then [p.fesc, p.tfesc] else [x]) ++ esc p s) ∧
      unescape p (esc p s) = s ∧ FEND ∉ esc p s)

/-! ### The Command Dispatcher -/

/-- R131. -/
def Obligations.DispatchWithoutACommandDoesNothing : Prop :=
  ∀ (b : Byte) (l : Half) (s : State), s.flag .decValid = false →
    exec (.dispatch b l) s = .next { s with result := 4#4, responses := s.responses ++ [0x00000004#32] }

/-- R130, R132, R133: `DISPATCH` discards the latch and executes the wire instruction that the latched code and body
decode to. That a wire command is an instruction, and that a listed code equal to `FESC` in KISS mode runs its own
entry, are the model's choices (notes/assumptions/8.md and 17.md). -/
def Obligations.DispatchExecutesTheLatchedWireCommand : Prop :=
  ∀ (b : Byte) (l : Half) (s : State), s.flag .decValid = true →
    exec (.dispatch b l) s =
      exec (decode (.wire s.decCode s.decBody))
        { s with status := s.status &&& 0xFD#8, decCode := 0x00#8, decBody := [] }

/-- R145, R130: `OVERFLOW` if a frame was dropped, else `UNRECOGNIZED` for a code outside the table, else `OK`; `DATA`
is the code. `OUT_OVF` is set if a frame was dropped, and no other sticky bit is. That a listed code equal to `FESC`
in KISS mode answers `OK` is the model's choice (notes/assumptions/17.md). -/
def Obligations.DispatchAnswersOverflowThenUnrecognizedThenOk : Prop :=
  ∀ (b : Byte) (l : Half) (s : State), s.flag .decValid = true →
    ∃ t evs res, exec (.dispatch b l) s = .next t ∧ t.evlog = s.evlog ++ evs ∧
      t.responses = s.responses ++ [answer (s.decCode.setWidth 16) res] ∧ t.result = res ∧
      t.status = (if evs.any Event.isDrop then s.status &&& 0xFD#8 ||| 0x10#8 else s.status &&& 0xFD#8) ∧
      res = (if evs.any Event.isDrop then 5#4
        else if s.decCode ∈ [0x00#8, 0x07#8, 0x08#8, 0x09#8, 0x0A#8] then 0#4 else 3#4)

/-- R134: one frame, the copy of the latched code and body; no request. -/
def Obligations.PassThroughCopiesTheFrame : Prop :=
  ∀ (body : List Byte) (s : State), ∃ res resp,
    exec (.codePassThrough body) s = .next { s.afterFrame (passFrame s.cfg 0x00#8 body) with
      dispKind := 1#3, result := res, responses := s.responses ++ [resp] }

/-- R135: the ACK frame, then the beacon request with the body cut to `MAXCOMMANDSIZE` bytes. -/
def Obligations.BeaconAcknowledgesThenRequestsTheText : Prop :=
  ∀ (body : List Byte) (s : State), ∃ res resp,
    let s₁ := s.afterFrame (ackFrame s.cfg 0x07#8)
    exec (.codeBeacon body) s = .next { s₁ with
      evlog := s₁.evlog ++ [.capBeacon (body.take s.cfg.maxCommandSize.toNat)], dispKind := 2#3, result := res,
      responses := s.responses ++ [resp] }

/-- R136: the ACK frame, the deploy request with its answer, the data Response with that text, whatever the body. -/
def Obligations.DeployAcknowledgesThenAnswersTheStatusText : Prop :=
  ∀ (body : List Byte) (s : State), ∃ text an dr res resp,
    let s₁ := s.afterFrame (ackFrame s.cfg 0x08#8)
    exec (.codeDeployAntenna body) s = .next {
      ({ s₁ with answers := an, draws := dr, evlog := s₁.evlog ++ [.capDeploy text] } : State).afterFrame
        (resFrame s.cfg text)
      with dispKind := 3#3, result := res, responses := s.responses ++ [resp] }

/-- R137: as code 0x08, with the status request. -/
def Obligations.ReportStatusAcknowledgesThenAnswersTheStatusText : Prop :=
  ∀ (body : List Byte) (s : State), ∃ text an dr res resp,
    let s₁ := s.afterFrame (ackFrame s.cfg 0x09#8)
    exec (.codeReportStatus body) s = .next {
      ({ s₁ with answers := an, draws := dr, evlog := s₁.evlog ++ [.capStatus text] } : State).afterFrame
        (resFrame s.cfg text)
      with dispKind := 3#3, result := res, responses := s.responses ++ [resp] }

/-- R141, of the wire commands 0x08 and 0x09 as instructions (notes/assumptions/8.md), under every parameter value:
also where `FESC` is the code in KISS mode, by the model's choice (notes/assumptions/17.md). That the text is the
next scripted answer, and a fresh free value when none is left, is the model's choice (notes/assumptions/3.md). -/
def Obligations.StatusTextsAreScriptedAnswersThenFreeValues : Prop :=
  ∀ (c : Byte) (body : List Byte) (s : State), c = 0x08#8 ∨ c = 0x09#8 →
    ∃ t ack text tail, exec (decode (.wire c body)) s = .next t ∧
      t.evlog = s.evlog ++ [ack, if c = 0x08#8 then .capDeploy text else .capStatus text, tail] ∧
      tail.attempted = some (resFrame s.cfg text) ∧
      (∀ x rest, s.answers = x :: rest → text = x ∧ t.answers = rest ∧ t.draws = s.draws) ∧
      (s.answers = [] → t.answers = [] ∧ t.draws = s.draws + 1)

/-- R138: the ACK frame, then the halt request; no register changes for it (10_state.md R37). -/
def Obligations.HaltAcknowledgesThenRequestsTheHalt : Prop :=
  ∀ (body : List Byte) (s : State), ∃ res resp,
    let s₁ := s.afterFrame (ackFrame s.cfg 0x0A#8)
    exec (.codeHaltRadio body) s = .next { s₁ with
      evlog := s₁.evlog ++ [.capHalt], dispKind := 2#3, result := res, responses := s.responses ++ [resp] }

/-- R139: a code not among the five decodes to the unrecognized row; that row, of any code, emits one NACK frame
tagged with the code and makes no request. `FESC` is among these codes unless it is one of the five, and then runs its
own entry: the model's choice (notes/assumptions/17.md). -/
def Obligations.UnrecognizedCodeIsAnsweredWithNack : Prop :=
  ∀ (c : Byte) (body : List Byte) (s : State),
    (c ∉ [0x00#8, 0x07#8, 0x08#8, 0x09#8, 0x0A#8] → decode (.wire c body) = .codeUnrecognized c body) ∧
    ∃ res resp, exec (.codeUnrecognized c body) s = .next { s.afterFrame (nackFrame s.cfg c) with
      dispKind := 4#3, result := res, responses := s.responses ++ [resp] }

/-- R142: ACK, request, data Response, in that order in `EVLOG`, for each `AckThenAction` wire command as an
instruction (notes/assumptions/8.md), under every parameter value: also where `FESC` is the code in KISS mode, by the
model's choice (notes/assumptions/17.md). -/
def Obligations.AckComesBeforeTheActionAndItsResponse : Prop :=
  ∀ (c : Byte) (body : List Byte) (s : State), c ∈ [0x07#8, 0x08#8, 0x09#8, 0x0A#8] →
    ∃ t ack req tail, exec (decode (.wire c body)) s = .next t ∧ t.evlog = s.evlog ++ ack :: req :: tail ∧
      (ack = .frame (ackFrame s.cfg c) ∨ ack = .dropped (ackFrame s.cfg c)) ∧ req.isRequest = true ∧
      (c ∈ [0x08#8, 0x09#8] → ∃ text, (req = .capDeploy text ∨ req = .capStatus text) ∧
        (tail = [.frame (resFrame s.cfg text)] ∨ tail = [.dropped (resFrame s.cfg text)])) ∧
      (c ∉ [0x08#8, 0x09#8] → tail = [])

/-- R147: what a consumed command attempts to emit: one pass-through copy, one ACK or one NACK; then one data Response
for codes 0x08 and 0x09; and nothing else. That a listed code equal to `FESC` in KISS mode is answered so too is the
model's choice (notes/assumptions/17.md). -/
def Obligations.EveryConsumedCommandHasItsResponsesAttempted : Prop :=
  ∀ (b : Byte) (l : Half) (s : State), s.flag .decValid = true →
    ∃ t evs text, exec (.dispatch b l) s = .next t ∧ t.evlog = s.evlog ++ evs ∧
      evs.filterMap Event.attempted =
        (if s.decCode = 0x00#8 then passFrame s.cfg s.decCode s.decBody
          else if s.decCode ∈ [0x07#8, 0x08#8, 0x09#8, 0x0A#8] then ackFrame s.cfg s.decCode
          else nackFrame s.cfg s.decCode) ::
        (if s.decCode ∈ [0x08#8, 0x09#8] then [resFrame s.cfg text] else [])

/-- R149: no step makes a capability request but `DISPATCH` and `POLL`; a reset makes none. -/
def Obligations.OnlyDispatchAndPollMakeRequests : Prop :=
  ∀ s t : State, step s = .next t →
    (∀ w, fetch s = some (.command w) →
      ∀ b l, decode (.word w) ≠ .dispatch b l ∧ decode (.word w) ≠ .poll b l) →
    t.answers = s.answers ∧ ∃ evs, t.evlog = s.evlog ++ evs ∧ ∀ e ∈ evs, e.isRequest = false

/-! ### The Frame Encoder -/

/-- R156, R157: the frame for the code in `B` is emitted whole or dropped whole, and `DATA` is its length either way. -/
def Obligations.EncAckAndEncNackEmitTheirFrames : Prop :=
  ∀ (c : Byte) (l : Half) (s : State),
    decode (.word (packWord 0x7#4 0x0#4 c l)) = .encAck c l ∧ decode (.word (packWord 0x8#4 0x0#4 c l)) = .encNack c l ∧
    (∀ f, f = ackFrame s.cfg c →
      exec (.encAck c l) s = .next { s.afterFrame f with
        result := if s.fits f then 0#4 else 5#4,
        responses := s.responses ++ [answer (BitVec.ofNat 16 f.length) (if s.fits f then 0#4 else 5#4)] }) ∧
    (∀ f, f = nackFrame s.cfg c →
      exec (.encNack c l) s = .next { s.afterFrame f with
        result := if s.fits f then 0#4 else 5#4,
        responses := s.responses ++ [answer (BitVec.ofNat 16 f.length) (if s.fits f then 0#4 else 5#4)] })

/-- R158: the latched body as a data Response, and the latch kept. Where the frame is longer than 16 bits can say, `DATA`
and the count of draws are left open (notes/assumptions/4.md). -/
def Obligations.EncResEmitsTheLatchedBody : Prop :=
  ∀ (b : Byte) (l : Half) (s : State),
    let f := resFrame s.cfg s.decBody
    decode (.word (packWord 0x9#4 0x0#4 b l)) = .encRes b l ∧
    (s.flag .decValid = true → ∃ data n, (f.length ≤ 65535 → data = BitVec.ofNat 16 f.length ∧ n = s.draws) ∧
      exec (.encRes b l) s = .next { s.afterFrame f with
        result := if s.fits f then 0#4 else 5#4, draws := n,
        responses := s.responses ++ [answer data (if s.fits f then 0#4 else 5#4)] }) ∧
    (s.flag .decValid = false →
      exec (.encRes b l) s = .next { s with result := 4#4, responses := s.responses ++ [0x00000004#32] })

/-- R79 to R82, R150 to R152: the frames byte by byte, and how long they are. -/
def Obligations.FramesHaveTheirFixedBytes : Prop :=
  ∀ (p : Params) (c : Byte) (body : List Byte),
    let extra := if p.escapeMode = .kiss ∧ (c = FEND ∨ c = p.fesc) then 1 else 0
    ackFrame p c = [0xC0#8, 0x00#8, 0x41#8, 0x43#8, 0x4B#8] ++ esc p [c] ++ [0xC0#8] ∧
    (ackFrame p c).length = 7 + extra ∧
    nackFrame p c = [0xC0#8, 0x00#8, 0x4E#8, 0x41#8, 0x43#8, 0x4B#8] ++ esc p [c] ++ [0xC0#8] ∧
    (nackFrame p c).length = 8 + extra ∧
    resFrame p body = [0xC0#8, 0x00#8, 0x52#8, 0x45#8, 0x53#8] ++ esc p body ++ [0xC0#8] ∧
    (resFrame p body).length = (esc p body).length + 6 ∧
    passFrame p c body = [0xC0#8, c] ++ esc p body ++ [0xC0#8] ∧
    (passFrame p c body).length = (esc p body).length + 3 ∧
    (p.escapeMode = .none → esc p body = body ∧ esc p [c] = [c])

/-- R163: every frame starts and ends with `FEND` and has `0x00` at index 1; in KISS mode it holds no other `FEND`, and
without escaping it holds no other exactly when its field holds none. -/
def Obligations.FramesHoldFendOnlyAtTheirEnds : Prop :=
  ∀ (p : Params) (c : Byte) (body f field : List Byte), p.wf = true →
    (f = ackFrame p c ∧ field = [c]) ∨ (f = nackFrame p c ∧ field = [c]) ∨ (f = resFrame p body ∧ field = body) ∨
      (f = passFrame p 0x00#8 body ∧ field = body) →
    f[0]? = some FEND ∧ f[1]? = some 0x00#8 ∧ f[f.length - 1]? = some FEND ∧
    (p.escapeMode = .kiss → ∀ i, 1 ≤ i → i < f.length - 1 → f[i]? ≠ some FEND) ∧
    (p.escapeMode = .none → ((∀ i, 1 ≤ i → i < f.length - 1 → f[i]? ≠ some FEND) ↔ FEND ∉ field))

/-- R155, R162: `Emit` appends the whole frame at the back of `OUT`, every byte already there reads as before, or it
appends nothing; it changes nothing but `OUT`, `OUT_OVF` and `EVLOG`. -/
def Obligations.EmitAppendsAWholeFrameOrNothing : Prop :=
  ∀ (f : List Byte) (s : State),
    (s.outBuf.length + f.length ≤ s.cfg.outCap.toNat →
      ∃ q, emit f s = .ok ({ s with outBuf := q, evlog := s.evlog ++ [.frame f] }, true) ∧
        size q = size s.outBuf + f.length ∧ (∀ i, i < size s.outBuf → peek q i = peek s.outBuf i) ∧
        ∀ i, i < f.length → peek q (size s.outBuf + i) = peek f i) ∧
    (s.cfg.outCap.toNat < s.outBuf.length + f.length →
      emit f s = .ok ({ s with status := s.status ||| 0x10#8, evlog := s.evlog ++ [.dropped f] }, false))

/-! ### Round trips -/

/-- R160: with escaping, a pass-through frame of any body, `FEND` and `FESC` among its bytes or not, is located whole and
decoded to that body by a block that uses the same constants. -/
def Obligations.KissFrameRoundTripsThroughLocateAndDecode : Prop :=
  ∀ (b : Byte) (body : List Byte) (s : State), s.cfg.wf = true → s.cfg.escapeMode = .kiss →
    s.inBuf = passFrame s.cfg 0x00#8 body → s.inBuf.length ≤ 65535 →
    locate s.inBuf = .ok (some s.inBuf.length, s.inBuf) ∧
    ∃ t, exec (.decode b (BitVec.ofNat 16 s.inBuf.length)) s = .next t ∧ t.result = 0#4 ∧ t.flag .decValid = true ∧
      t.decCode = 0x00#8 ∧ t.decBody = body ∧ t.inBuf = []

/-- R159: without escaping, the pass-through frame built from a located and decoded frame is that frame; and a data
Response whose payload holds no `FEND` is located whole and decoded to its marker and its payload. -/
def Obligations.UnescapedFramesRoundTrip : Prop :=
  ∀ (b : Byte) (s : State), s.cfg.escapeMode = .none → s.inBuf.length ≤ 65535 →
    (∀ q n, locate s.inBuf = .ok (some n, q) →
      ∃ t, exec (.decode b (BitVec.ofNat 16 n)) { s with inBuf := q } = .next t ∧ t.flag .decValid = true ∧
        passFrame s.cfg t.decCode t.decBody = q.take n) ∧
    (∀ payload, FEND ∉ payload → s.inBuf = resFrame s.cfg payload →
      locate s.inBuf = .ok (some (payload.length + 6), s.inBuf) ∧
      ∃ t, exec (.decode b (BitVec.ofNat 16 (payload.length + 6))) s = .next t ∧ t.flag .decValid = true ∧
        t.decCode = 0x00#8 ∧ t.decBody = 0x52#8 :: 0x45#8 :: 0x53#8 :: payload)

/-! ### POLL -/

/-- R165, first branch: a latched command is dispatched, nothing is located, and `DATA` is 0. -/
def Obligations.PollDispatchesALatchedCommandFirst : Prop :=
  ∀ (b b' : Byte) (l l' : Half) (s : State), s.flag .decValid = true →
    ∃ t, exec (.dispatch b' l') s = .next t ∧ t.inBuf = s.inBuf ∧ t.locLen = s.locLen ∧
      exec (.poll b l) s = .next { t with responses := s.responses ++ [answer 0#16 t.result] }

/-- R165, R166: with no command latched and no frame located, `POLL` answers `NONE`. -/
def Obligations.PollWithoutAFrameAnswersNone : Prop :=
  ∀ (b : Byte) (l : Half) (s : State) (q : List Byte), s.flag .decValid = false → locate s.inBuf = .ok (none, q) →
    exec (.poll b l) s = .next { s with
      inBuf := q, status := s.status &&& 0xFE#8, locLen := 0#16, result := 1#4,
      responses := s.responses ++ [0x00000001#32] }

/-- R174: with no command latched, `POLL` has the effect of `LOCATE`, then `DECODE LOC_LEN` and `DISPATCH` where `LOCATE`
found a frame, but for the response words. -/
def Obligations.PollIsLocateThenDecodeThenDispatch : Prop :=
  ∀ (b : Byte) (l : Half) (s : State), s.flag .decValid = false → s.inBuf.length ≤ 65535 →
    (∀ q n, locate s.inBuf = .ok (some n, q) →
      ∃ t₁ t₂ t₃ t, exec (.locate b l) s = .next t₁ ∧ exec (.decode b t₁.locLen) t₁ = .next t₂ ∧
        exec (.dispatch b l) t₂ = .next t₃ ∧ exec (.poll b l) s = .next t ∧
        t = { t₃ with responses := s.responses ++ [answer (BitVec.ofNat 16 n) t₃.result] }) ∧
    (∀ q, locate s.inBuf = .ok (none, q) → exec (.poll b l) s = exec (.locate b l) s)

/-- R165, R181: `POLL` never answers `MALFORMED` or `NO_COMMAND`, never sets `MALFORMED`, and leaves the latch empty. -/
def Obligations.PollNeverAnswersMalformedOrNoCommand : Prop :=
  ∀ (b : Byte) (l : Half) (s : State), ∃ t, exec (.poll b l) s = .next t ∧
    (t.result = 0#4 ∨ t.result = 1#4 ∨ t.result = 3#4 ∨ t.result = 5#4) ∧
    t.flag .malformed = s.flag .malformed ∧ t.flag .decValid = false ∧
    (s.flag .decValid = true ∨ (s.decBody = [] ∧ s.decCode = 0x00#8) → t.decBody = [] ∧ t.decCode = 0x00#8)
end

