-- ==== Sys2Proof/Laws/State.lean ====
section
/-! SUPPORT. One lemma per field per named update of the state, true by `rfl`, so that no later proof unfolds a record
update; and reading a `STATUS` bit after writing one. -/

namespace Sys2Proof.Machine

/-! ### `State.setFlag` -/

@[simp] theorem State.setFlag_inBuf (s : State) (f : StatusBit) (v : Bool) : (s.setFlag f v).inBuf = s.inBuf := rfl
@[simp] theorem State.setFlag_outBuf (s : State) (f : StatusBit) (v : Bool) : (s.setFlag f v).outBuf = s.outBuf := rfl
@[simp] theorem State.setFlag_status (s : State) (f : StatusBit) (v : Bool) : (s.setFlag f v).status = withStatusBit s.status f v := rfl
@[simp] theorem State.setFlag_result (s : State) (f : StatusBit) (v : Bool) : (s.setFlag f v).result = s.result := rfl
@[simp] theorem State.setFlag_locLen (s : State) (f : StatusBit) (v : Bool) : (s.setFlag f v).locLen = s.locLen := rfl
@[simp] theorem State.setFlag_decCode (s : State) (f : StatusBit) (v : Bool) : (s.setFlag f v).decCode = s.decCode := rfl
@[simp] theorem State.setFlag_decBody (s : State) (f : StatusBit) (v : Bool) : (s.setFlag f v).decBody = s.decBody := rfl
@[simp] theorem State.setFlag_dispKind (s : State) (f : StatusBit) (v : Bool) : (s.setFlag f v).dispKind = s.dispKind := rfl
@[simp] theorem State.setFlag_cfg (s : State) (f : StatusBit) (v : Bool) : (s.setFlag f v).cfg = s.cfg := rfl
@[simp] theorem State.setFlag_evlog (s : State) (f : StatusBit) (v : Bool) : (s.setFlag f v).evlog = s.evlog := rfl
@[simp] theorem State.setFlag_fault (s : State) (f : StatusBit) (v : Bool) : (s.setFlag f v).fault = s.fault := rfl
@[simp] theorem State.setFlag_host (s : State) (f : StatusBit) (v : Bool) : (s.setFlag f v).host = s.host := rfl
@[simp] theorem State.setFlag_pos (s : State) (f : StatusBit) (v : Bool) : (s.setFlag f v).pos = s.pos := rfl
@[simp] theorem State.setFlag_responses (s : State) (f : StatusBit) (v : Bool) : (s.setFlag f v).responses = s.responses := rfl
@[simp] theorem State.setFlag_answers (s : State) (f : StatusBit) (v : Bool) : (s.setFlag f v).answers = s.answers := rfl
@[simp] theorem State.setFlag_draws (s : State) (f : StatusBit) (v : Bool) : (s.setFlag f v).draws = s.draws := rfl

/-! ### `State.setDispKind` -/

@[simp] theorem State.setDispKind_inBuf (s : State) (k : DispKind) : (s.setDispKind k).inBuf = s.inBuf := rfl
@[simp] theorem State.setDispKind_outBuf (s : State) (k : DispKind) : (s.setDispKind k).outBuf = s.outBuf := rfl
@[simp] theorem State.setDispKind_status (s : State) (k : DispKind) : (s.setDispKind k).status = s.status := rfl
@[simp] theorem State.setDispKind_result (s : State) (k : DispKind) : (s.setDispKind k).result = s.result := rfl
@[simp] theorem State.setDispKind_locLen (s : State) (k : DispKind) : (s.setDispKind k).locLen = s.locLen := rfl
@[simp] theorem State.setDispKind_decCode (s : State) (k : DispKind) : (s.setDispKind k).decCode = s.decCode := rfl
@[simp] theorem State.setDispKind_decBody (s : State) (k : DispKind) : (s.setDispKind k).decBody = s.decBody := rfl
@[simp] theorem State.setDispKind_dispKind (s : State) (k : DispKind) : (s.setDispKind k).dispKind = k.bits := rfl
@[simp] theorem State.setDispKind_cfg (s : State) (k : DispKind) : (s.setDispKind k).cfg = s.cfg := rfl
@[simp] theorem State.setDispKind_evlog (s : State) (k : DispKind) : (s.setDispKind k).evlog = s.evlog := rfl
@[simp] theorem State.setDispKind_fault (s : State) (k : DispKind) : (s.setDispKind k).fault = s.fault := rfl
@[simp] theorem State.setDispKind_host (s : State) (k : DispKind) : (s.setDispKind k).host = s.host := rfl
@[simp] theorem State.setDispKind_pos (s : State) (k : DispKind) : (s.setDispKind k).pos = s.pos := rfl
@[simp] theorem State.setDispKind_responses (s : State) (k : DispKind) : (s.setDispKind k).responses = s.responses := rfl
@[simp] theorem State.setDispKind_answers (s : State) (k : DispKind) : (s.setDispKind k).answers = s.answers := rfl
@[simp] theorem State.setDispKind_draws (s : State) (k : DispKind) : (s.setDispKind k).draws = s.draws := rfl

/-! ### `State.respond` -/

@[simp] theorem State.respond_inBuf (s : State) (c : ResultCode) (d : Half) : (s.respond c d).inBuf = s.inBuf := rfl
@[simp] theorem State.respond_outBuf (s : State) (c : ResultCode) (d : Half) : (s.respond c d).outBuf = s.outBuf := rfl
@[simp] theorem State.respond_status (s : State) (c : ResultCode) (d : Half) : (s.respond c d).status = s.status := rfl
@[simp] theorem State.respond_result (s : State) (c : ResultCode) (d : Half) : (s.respond c d).result = s.result := rfl
@[simp] theorem State.respond_locLen (s : State) (c : ResultCode) (d : Half) : (s.respond c d).locLen = s.locLen := rfl
@[simp] theorem State.respond_decCode (s : State) (c : ResultCode) (d : Half) : (s.respond c d).decCode = s.decCode := rfl
@[simp] theorem State.respond_decBody (s : State) (c : ResultCode) (d : Half) : (s.respond c d).decBody = s.decBody := rfl
@[simp] theorem State.respond_dispKind (s : State) (c : ResultCode) (d : Half) : (s.respond c d).dispKind = s.dispKind := rfl
@[simp] theorem State.respond_cfg (s : State) (c : ResultCode) (d : Half) : (s.respond c d).cfg = s.cfg := rfl
@[simp] theorem State.respond_evlog (s : State) (c : ResultCode) (d : Half) : (s.respond c d).evlog = s.evlog := rfl
@[simp] theorem State.respond_fault (s : State) (c : ResultCode) (d : Half) : (s.respond c d).fault = s.fault := rfl
@[simp] theorem State.respond_host (s : State) (c : ResultCode) (d : Half) : (s.respond c d).host = s.host := rfl
@[simp] theorem State.respond_pos (s : State) (c : ResultCode) (d : Half) : (s.respond c d).pos = s.pos := rfl
@[simp] theorem State.respond_responses (s : State) (c : ResultCode) (d : Half) : (s.respond c d).responses = s.responses ++ [responseWord c d] := rfl
@[simp] theorem State.respond_answers (s : State) (c : ResultCode) (d : Half) : (s.respond c d).answers = s.answers := rfl
@[simp] theorem State.respond_draws (s : State) (c : ResultCode) (d : Half) : (s.respond c d).draws = s.draws := rfl

/-! ### `State.finish` -/

@[simp] theorem State.finish_inBuf (s : State) (c : ResultCode) (d : Half) : (s.finish c d).inBuf = s.inBuf := rfl
@[simp] theorem State.finish_outBuf (s : State) (c : ResultCode) (d : Half) : (s.finish c d).outBuf = s.outBuf := rfl
@[simp] theorem State.finish_status (s : State) (c : ResultCode) (d : Half) : (s.finish c d).status = s.status := rfl
@[simp] theorem State.finish_result (s : State) (c : ResultCode) (d : Half) : (s.finish c d).result = c.bits := rfl
@[simp] theorem State.finish_locLen (s : State) (c : ResultCode) (d : Half) : (s.finish c d).locLen = s.locLen := rfl
@[simp] theorem State.finish_decCode (s : State) (c : ResultCode) (d : Half) : (s.finish c d).decCode = s.decCode := rfl
@[simp] theorem State.finish_decBody (s : State) (c : ResultCode) (d : Half) : (s.finish c d).decBody = s.decBody := rfl
@[simp] theorem State.finish_dispKind (s : State) (c : ResultCode) (d : Half) : (s.finish c d).dispKind = s.dispKind := rfl
@[simp] theorem State.finish_cfg (s : State) (c : ResultCode) (d : Half) : (s.finish c d).cfg = s.cfg := rfl
@[simp] theorem State.finish_evlog (s : State) (c : ResultCode) (d : Half) : (s.finish c d).evlog = s.evlog := rfl
@[simp] theorem State.finish_fault (s : State) (c : ResultCode) (d : Half) : (s.finish c d).fault = s.fault := rfl
@[simp] theorem State.finish_host (s : State) (c : ResultCode) (d : Half) : (s.finish c d).host = s.host := rfl
@[simp] theorem State.finish_pos (s : State) (c : ResultCode) (d : Half) : (s.finish c d).pos = s.pos := rfl
@[simp] theorem State.finish_responses (s : State) (c : ResultCode) (d : Half) : (s.finish c d).responses = s.responses ++ [responseWord c d] := rfl
@[simp] theorem State.finish_answers (s : State) (c : ResultCode) (d : Half) : (s.finish c d).answers = s.answers := rfl
@[simp] theorem State.finish_draws (s : State) (c : ResultCode) (d : Half) : (s.finish c d).draws = s.draws := rfl

/-! ### `State.refuseIllegal` -/

@[simp] theorem State.refuseIllegal_inBuf (s : State) : s.refuseIllegal.inBuf = s.inBuf := rfl
@[simp] theorem State.refuseIllegal_outBuf (s : State) : s.refuseIllegal.outBuf = s.outBuf := rfl
@[simp] theorem State.refuseIllegal_status (s : State) : s.refuseIllegal.status = withStatusBit s.status .illegal true := rfl
@[simp] theorem State.refuseIllegal_result (s : State) : s.refuseIllegal.result = 6#4 := rfl
@[simp] theorem State.refuseIllegal_locLen (s : State) : s.refuseIllegal.locLen = s.locLen := rfl
@[simp] theorem State.refuseIllegal_decCode (s : State) : s.refuseIllegal.decCode = s.decCode := rfl
@[simp] theorem State.refuseIllegal_decBody (s : State) : s.refuseIllegal.decBody = s.decBody := rfl
@[simp] theorem State.refuseIllegal_dispKind (s : State) : s.refuseIllegal.dispKind = s.dispKind := rfl
@[simp] theorem State.refuseIllegal_cfg (s : State) : s.refuseIllegal.cfg = s.cfg := rfl
@[simp] theorem State.refuseIllegal_evlog (s : State) : s.refuseIllegal.evlog = s.evlog := rfl
@[simp] theorem State.refuseIllegal_fault (s : State) : s.refuseIllegal.fault = s.fault := rfl
@[simp] theorem State.refuseIllegal_host (s : State) : s.refuseIllegal.host = s.host := rfl
@[simp] theorem State.refuseIllegal_pos (s : State) : s.refuseIllegal.pos = s.pos := rfl
@[simp] theorem State.refuseIllegal_responses (s : State) : s.refuseIllegal.responses = s.responses ++ [responseWord .illegal 0#16] := rfl
@[simp] theorem State.refuseIllegal_answers (s : State) : s.refuseIllegal.answers = s.answers := rfl
@[simp] theorem State.refuseIllegal_draws (s : State) : s.refuseIllegal.draws = s.draws := rfl

/-! ### `State.recordFault` -/

@[simp] theorem State.recordFault_inBuf (s : State) (f : Fault) : (s.recordFault f).inBuf = s.inBuf := rfl
@[simp] theorem State.recordFault_outBuf (s : State) (f : Fault) : (s.recordFault f).outBuf = s.outBuf := rfl
@[simp] theorem State.recordFault_status (s : State) (f : Fault) : (s.recordFault f).status = s.status := rfl
@[simp] theorem State.recordFault_result (s : State) (f : Fault) : (s.recordFault f).result = s.result := rfl
@[simp] theorem State.recordFault_locLen (s : State) (f : Fault) : (s.recordFault f).locLen = s.locLen := rfl
@[simp] theorem State.recordFault_decCode (s : State) (f : Fault) : (s.recordFault f).decCode = s.decCode := rfl
@[simp] theorem State.recordFault_decBody (s : State) (f : Fault) : (s.recordFault f).decBody = s.decBody := rfl
@[simp] theorem State.recordFault_dispKind (s : State) (f : Fault) : (s.recordFault f).dispKind = s.dispKind := rfl
@[simp] theorem State.recordFault_cfg (s : State) (f : Fault) : (s.recordFault f).cfg = s.cfg := rfl
@[simp] theorem State.recordFault_evlog (s : State) (f : Fault) : (s.recordFault f).evlog = s.evlog := rfl
@[simp] theorem State.recordFault_fault (s : State) (f : Fault) : (s.recordFault f).fault = s.fault.or (some f) := by
  unfold State.recordFault; cases s.fault <;> rfl
@[simp] theorem State.recordFault_host (s : State) (f : Fault) : (s.recordFault f).host = s.host := rfl
@[simp] theorem State.recordFault_pos (s : State) (f : Fault) : (s.recordFault f).pos = s.pos := rfl
@[simp] theorem State.recordFault_responses (s : State) (f : Fault) : (s.recordFault f).responses = s.responses := rfl
@[simp] theorem State.recordFault_answers (s : State) (f : Fault) : (s.recordFault f).answers = s.answers := rfl
@[simp] theorem State.recordFault_draws (s : State) (f : Fault) : (s.recordFault f).draws = s.draws := rfl

/-! ### `State.clearLocated` -/

@[simp] theorem State.clearLocated_inBuf (s : State) : s.clearLocated.inBuf = s.inBuf := rfl
@[simp] theorem State.clearLocated_outBuf (s : State) : s.clearLocated.outBuf = s.outBuf := rfl
@[simp] theorem State.clearLocated_status (s : State) : s.clearLocated.status = withStatusBit s.status .locValid false := rfl
@[simp] theorem State.clearLocated_result (s : State) : s.clearLocated.result = s.result := rfl
@[simp] theorem State.clearLocated_locLen (s : State) : s.clearLocated.locLen = 0#16 := rfl
@[simp] theorem State.clearLocated_decCode (s : State) : s.clearLocated.decCode = s.decCode := rfl
@[simp] theorem State.clearLocated_decBody (s : State) : s.clearLocated.decBody = s.decBody := rfl
@[simp] theorem State.clearLocated_dispKind (s : State) : s.clearLocated.dispKind = s.dispKind := rfl
@[simp] theorem State.clearLocated_cfg (s : State) : s.clearLocated.cfg = s.cfg := rfl
@[simp] theorem State.clearLocated_evlog (s : State) : s.clearLocated.evlog = s.evlog := rfl
@[simp] theorem State.clearLocated_fault (s : State) : s.clearLocated.fault = s.fault := rfl
@[simp] theorem State.clearLocated_host (s : State) : s.clearLocated.host = s.host := rfl
@[simp] theorem State.clearLocated_pos (s : State) : s.clearLocated.pos = s.pos := rfl
@[simp] theorem State.clearLocated_responses (s : State) : s.clearLocated.responses = s.responses := rfl
@[simp] theorem State.clearLocated_answers (s : State) : s.clearLocated.answers = s.answers := rfl
@[simp] theorem State.clearLocated_draws (s : State) : s.clearLocated.draws = s.draws := rfl

/-! ### `State.setLocated` -/

@[simp] theorem State.setLocated_inBuf (s : State) (n : Nat) : (s.setLocated n).inBuf = s.inBuf := rfl
@[simp] theorem State.setLocated_outBuf (s : State) (n : Nat) : (s.setLocated n).outBuf = s.outBuf := rfl
@[simp] theorem State.setLocated_status (s : State) (n : Nat) : (s.setLocated n).status = withStatusBit s.status .locValid true := rfl
@[simp] theorem State.setLocated_result (s : State) (n : Nat) : (s.setLocated n).result = s.result := rfl
@[simp] theorem State.setLocated_locLen (s : State) (n : Nat) : (s.setLocated n).locLen = half n := rfl
@[simp] theorem State.setLocated_decCode (s : State) (n : Nat) : (s.setLocated n).decCode = s.decCode := rfl
@[simp] theorem State.setLocated_decBody (s : State) (n : Nat) : (s.setLocated n).decBody = s.decBody := rfl
@[simp] theorem State.setLocated_dispKind (s : State) (n : Nat) : (s.setLocated n).dispKind = s.dispKind := rfl
@[simp] theorem State.setLocated_cfg (s : State) (n : Nat) : (s.setLocated n).cfg = s.cfg := rfl
@[simp] theorem State.setLocated_evlog (s : State) (n : Nat) : (s.setLocated n).evlog = s.evlog := rfl
@[simp] theorem State.setLocated_fault (s : State) (n : Nat) : (s.setLocated n).fault = s.fault := rfl
@[simp] theorem State.setLocated_host (s : State) (n : Nat) : (s.setLocated n).host = s.host := rfl
@[simp] theorem State.setLocated_pos (s : State) (n : Nat) : (s.setLocated n).pos = s.pos := rfl
@[simp] theorem State.setLocated_responses (s : State) (n : Nat) : (s.setLocated n).responses = s.responses := rfl
@[simp] theorem State.setLocated_answers (s : State) (n : Nat) : (s.setLocated n).answers = s.answers := rfl
@[simp] theorem State.setLocated_draws (s : State) (n : Nat) : (s.setLocated n).draws = s.draws := rfl

/-! ### `State.discardLatch` -/

@[simp] theorem State.discardLatch_inBuf (s : State) : s.discardLatch.inBuf = s.inBuf := rfl
@[simp] theorem State.discardLatch_outBuf (s : State) : s.discardLatch.outBuf = s.outBuf := rfl
@[simp] theorem State.discardLatch_status (s : State) : s.discardLatch.status = withStatusBit s.status .decValid false := rfl
@[simp] theorem State.discardLatch_result (s : State) : s.discardLatch.result = s.result := rfl
@[simp] theorem State.discardLatch_locLen (s : State) : s.discardLatch.locLen = s.locLen := rfl
@[simp] theorem State.discardLatch_decCode (s : State) : s.discardLatch.decCode = 0x00#8 := rfl
@[simp] theorem State.discardLatch_decBody (s : State) : s.discardLatch.decBody = [] := rfl
@[simp] theorem State.discardLatch_dispKind (s : State) : s.discardLatch.dispKind = s.dispKind := rfl
@[simp] theorem State.discardLatch_cfg (s : State) : s.discardLatch.cfg = s.cfg := rfl
@[simp] theorem State.discardLatch_evlog (s : State) : s.discardLatch.evlog = s.evlog := rfl
@[simp] theorem State.discardLatch_fault (s : State) : s.discardLatch.fault = s.fault := rfl
@[simp] theorem State.discardLatch_host (s : State) : s.discardLatch.host = s.host := rfl
@[simp] theorem State.discardLatch_pos (s : State) : s.discardLatch.pos = s.pos := rfl
@[simp] theorem State.discardLatch_responses (s : State) : s.discardLatch.responses = s.responses := rfl
@[simp] theorem State.discardLatch_answers (s : State) : s.discardLatch.answers = s.answers := rfl
@[simp] theorem State.discardLatch_draws (s : State) : s.discardLatch.draws = s.draws := rfl

/-! ### `State.fillLatch` -/

@[simp] theorem State.fillLatch_inBuf (s : State) (c : Byte) (b : List Byte) : (s.fillLatch c b).inBuf = s.inBuf := rfl
@[simp] theorem State.fillLatch_outBuf (s : State) (c : Byte) (b : List Byte) : (s.fillLatch c b).outBuf = s.outBuf := rfl
@[simp] theorem State.fillLatch_status (s : State) (c : Byte) (b : List Byte) : (s.fillLatch c b).status = withStatusBit s.status .decValid true := rfl
@[simp] theorem State.fillLatch_result (s : State) (c : Byte) (b : List Byte) : (s.fillLatch c b).result = s.result := rfl
@[simp] theorem State.fillLatch_locLen (s : State) (c : Byte) (b : List Byte) : (s.fillLatch c b).locLen = s.locLen := rfl
@[simp] theorem State.fillLatch_decCode (s : State) (c : Byte) (b : List Byte) : (s.fillLatch c b).decCode = c := rfl
@[simp] theorem State.fillLatch_decBody (s : State) (c : Byte) (b : List Byte) : (s.fillLatch c b).decBody = b := rfl
@[simp] theorem State.fillLatch_dispKind (s : State) (c : Byte) (b : List Byte) : (s.fillLatch c b).dispKind = s.dispKind := rfl
@[simp] theorem State.fillLatch_cfg (s : State) (c : Byte) (b : List Byte) : (s.fillLatch c b).cfg = s.cfg := rfl
@[simp] theorem State.fillLatch_evlog (s : State) (c : Byte) (b : List Byte) : (s.fillLatch c b).evlog = s.evlog := rfl
@[simp] theorem State.fillLatch_fault (s : State) (c : Byte) (b : List Byte) : (s.fillLatch c b).fault = s.fault := rfl
@[simp] theorem State.fillLatch_host (s : State) (c : Byte) (b : List Byte) : (s.fillLatch c b).host = s.host := rfl
@[simp] theorem State.fillLatch_pos (s : State) (c : Byte) (b : List Byte) : (s.fillLatch c b).pos = s.pos := rfl
@[simp] theorem State.fillLatch_responses (s : State) (c : Byte) (b : List Byte) : (s.fillLatch c b).responses = s.responses := rfl
@[simp] theorem State.fillLatch_answers (s : State) (c : Byte) (b : List Byte) : (s.fillLatch c b).answers = s.answers := rfl
@[simp] theorem State.fillLatch_draws (s : State) (c : Byte) (b : List Byte) : (s.fillLatch c b).draws = s.draws := rfl

/-! ### `State.logEvent` -/

@[simp] theorem State.logEvent_inBuf (s : State) (e : Event) : (s.logEvent e).inBuf = s.inBuf := rfl
@[simp] theorem State.logEvent_outBuf (s : State) (e : Event) : (s.logEvent e).outBuf = s.outBuf := rfl
@[simp] theorem State.logEvent_status (s : State) (e : Event) : (s.logEvent e).status = s.status := rfl
@[simp] theorem State.logEvent_result (s : State) (e : Event) : (s.logEvent e).result = s.result := rfl
@[simp] theorem State.logEvent_locLen (s : State) (e : Event) : (s.logEvent e).locLen = s.locLen := rfl
@[simp] theorem State.logEvent_decCode (s : State) (e : Event) : (s.logEvent e).decCode = s.decCode := rfl
@[simp] theorem State.logEvent_decBody (s : State) (e : Event) : (s.logEvent e).decBody = s.decBody := rfl
@[simp] theorem State.logEvent_dispKind (s : State) (e : Event) : (s.logEvent e).dispKind = s.dispKind := rfl
@[simp] theorem State.logEvent_cfg (s : State) (e : Event) : (s.logEvent e).cfg = s.cfg := rfl
@[simp] theorem State.logEvent_evlog (s : State) (e : Event) : (s.logEvent e).evlog = s.evlog ++ [e] := rfl
@[simp] theorem State.logEvent_fault (s : State) (e : Event) : (s.logEvent e).fault = s.fault := rfl
@[simp] theorem State.logEvent_host (s : State) (e : Event) : (s.logEvent e).host = s.host := rfl
@[simp] theorem State.logEvent_pos (s : State) (e : Event) : (s.logEvent e).pos = s.pos := rfl
@[simp] theorem State.logEvent_responses (s : State) (e : Event) : (s.logEvent e).responses = s.responses := rfl
@[simp] theorem State.logEvent_answers (s : State) (e : Event) : (s.logEvent e).answers = s.answers := rfl
@[simp] theorem State.logEvent_draws (s : State) (e : Event) : (s.logEvent e).draws = s.draws := rfl

/-! ### `State.advance` -/

@[simp] theorem State.advance_inBuf (s : State) : s.advance.inBuf = s.inBuf := rfl
@[simp] theorem State.advance_outBuf (s : State) : s.advance.outBuf = s.outBuf := rfl
@[simp] theorem State.advance_status (s : State) : s.advance.status = s.status := rfl
@[simp] theorem State.advance_result (s : State) : s.advance.result = s.result := rfl
@[simp] theorem State.advance_locLen (s : State) : s.advance.locLen = s.locLen := rfl
@[simp] theorem State.advance_decCode (s : State) : s.advance.decCode = s.decCode := rfl
@[simp] theorem State.advance_decBody (s : State) : s.advance.decBody = s.decBody := rfl
@[simp] theorem State.advance_dispKind (s : State) : s.advance.dispKind = s.dispKind := rfl
@[simp] theorem State.advance_cfg (s : State) : s.advance.cfg = s.cfg := rfl
@[simp] theorem State.advance_evlog (s : State) : s.advance.evlog = s.evlog := rfl
@[simp] theorem State.advance_fault (s : State) : s.advance.fault = s.fault := rfl
@[simp] theorem State.advance_host (s : State) : s.advance.host = s.host := rfl
@[simp] theorem State.advance_pos (s : State) : s.advance.pos = s.pos + 1 := rfl
@[simp] theorem State.advance_responses (s : State) : s.advance.responses = s.responses := rfl
@[simp] theorem State.advance_answers (s : State) : s.advance.answers = s.answers := rfl
@[simp] theorem State.advance_draws (s : State) : s.advance.draws = s.draws := rfl

/-! ### `State.resetEvent` -/

@[simp] theorem State.resetEvent_inBuf (s : State) : s.resetEvent.inBuf = [] := rfl
@[simp] theorem State.resetEvent_outBuf (s : State) : s.resetEvent.outBuf = [] := rfl
@[simp] theorem State.resetEvent_status (s : State) : s.resetEvent.status = 0x00#8 := rfl
@[simp] theorem State.resetEvent_result (s : State) : s.resetEvent.result = 0#4 := rfl
@[simp] theorem State.resetEvent_locLen (s : State) : s.resetEvent.locLen = 0#16 := rfl
@[simp] theorem State.resetEvent_decCode (s : State) : s.resetEvent.decCode = 0x00#8 := rfl
@[simp] theorem State.resetEvent_decBody (s : State) : s.resetEvent.decBody = [] := rfl
@[simp] theorem State.resetEvent_dispKind (s : State) : s.resetEvent.dispKind = 0#3 := rfl
@[simp] theorem State.resetEvent_cfg (s : State) : s.resetEvent.cfg = s.cfg := rfl
@[simp] theorem State.resetEvent_evlog (s : State) : s.resetEvent.evlog = s.evlog ++ [.reset] := rfl
@[simp] theorem State.resetEvent_fault (s : State) : s.resetEvent.fault = s.fault := rfl
@[simp] theorem State.resetEvent_host (s : State) : s.resetEvent.host = s.host := rfl
@[simp] theorem State.resetEvent_pos (s : State) : s.resetEvent.pos = s.pos := rfl
@[simp] theorem State.resetEvent_responses (s : State) : s.resetEvent.responses = s.responses := rfl
@[simp] theorem State.resetEvent_answers (s : State) : s.resetEvent.answers = s.answers := rfl
@[simp] theorem State.resetEvent_draws (s : State) : s.resetEvent.draws = s.draws := rfl

/-! ### The `STATUS` bits -/

@[simp] theorem statusBit_withStatusBit (st : Byte) (f g : StatusBit) (v : Bool) :
    statusBit (withStatusBit st f v) g = if g = f then v else statusBit st g := by
  cases f <;> cases g <;> cases v <;> simp [statusBit, withStatusBit, StatusBit.index]

@[simp] theorem State.flag_setFlag (s : State) (f g : StatusBit) (v : Bool) :
    (s.setFlag f v).flag g = if g = f then v else s.flag g := statusBit_withStatusBit s.status f g v

end Sys2Proof.Machine
end

