-- ==== Sys2Proof/Laws/Ring.lean ====
section
/-! SUPPORT. What the ring primitives and the loops over them can do, said once each (20_memory.md R47 to R50), and that
they keep the form of the memories (R46). -/

namespace Sys2Proof.Machine

@[simp] theorem settle_ok (s t : State) : settle s (.ok t) = t := rfl

@[simp] theorem settle_error (s : State) (f : Fault) : settle s (.error f) = s.recordFault f := rfl

/-- `Peek` answers a byte exactly below `Size` (R48). -/
theorem peek_eq_ok_iff (q : List Byte) (i : Nat) (b : Byte) : peek q i = .ok b ↔ q[i]? = some b := by
  unfold peek; cases q[i]? <;> simp

theorem peek_of_getElem? {q : List Byte} {i : Nat} {b : Byte} (h : q[i]? = some b) : peek q i = .ok b :=
  (peek_eq_ok_iff q i b).2 h

@[simp] theorem peek_cons_zero (b : Byte) (q : List Byte) : peek (b :: q) 0 = .ok b := rfl

@[simp] theorem peek_cons_succ (b : Byte) (q : List Byte) (i : Nat) : peek (b :: q) (i + 1) = peek q i := by
  simp [peek]

/-- `Peek` below `Size` reaches no fault. -/
theorem peek_of_lt {q : List Byte} {i : Nat} (h : i < q.length) : peek q i = .ok q[i] := by
  simp [peek, List.getElem?_eq_getElem h]

@[simp] theorem popFront_cons (b : Byte) (q : List Byte) : popFront (b :: q) = .ok q := rfl

/-- `PushBack` below the capacity appends; at the capacity it faults (R50). -/
theorem pushBack_eq_ok_iff (cap : Nat) (q q' : List Byte) (b : Byte) :
    pushBack cap q b = .ok q' ↔ q.length < cap ∧ q' = q ++ [b] := by
  unfold pushBack size; split <;> simp_all [eq_comm]

theorem pushBack_of_lt {cap : Nat} {q : List Byte} (b : Byte) (h : q.length < cap) :
    pushBack cap q b = .ok (q ++ [b]) := (pushBack_eq_ok_iff cap q _ b).2 ⟨h, rfl⟩

/-- Popping at most `Size` bytes leaves the rest of the buffer. -/
theorem popMany_of_le {n : Nat} {q : List Byte} (h : n ≤ q.length) : popMany n q = .ok (q.drop n) := by
  induction n generalizing q with
  | zero => rfl
  | succ n ih =>
    cases q with
    | nil => simp at h
    | cons b q => exact ih (by simpa using h)

/-- Peeking within the buffer copies the bytes. -/
theorem peekMany_of_le {q : List Byte} {i n : Nat} (h : i + n ≤ q.length) :
    peekMany q i n = .ok ((q.drop i).take n) := by
  induction n generalizing i with
  | zero => simp [peekMany]
  | succ n ih =>
    have hi : i < q.length := by omega
    simp only [peekMany, peek_of_lt hi, ih (show i + 1 + n ≤ q.length by omega), List.drop_eq_getElem_cons hi]
    rfl

/-- Pushing what there is room for appends it all. -/
theorem pushMany_of_le {cap : Nat} {q f : List Byte} (h : q.length + f.length ≤ cap) :
    pushMany cap q f = .ok (q ++ f) := by
  induction f generalizing q with
  | nil => simp [pushMany]
  | cons b f ih =>
    have hq : q.length < cap := by simp at h; omega
    have hf : (q ++ [b]).length + f.length ≤ cap := by simp at h ⊢; omega
    simpa [pushMany, pushBack_of_lt b hq, bind, Except.bind] using ih hf

/-- Every primitive keeps a buffer within its capacity (R46). -/
theorem popFront_length_le {q q' : List Byte} (h : popFront q = .ok q') : q'.length ≤ q.length := by
  cases q with
  | nil => cases h
  | cons b q => cases h; simp

theorem pushBack_length_le {cap : Nat} {q q' : List Byte} {b : Byte} (h : pushBack cap q b = .ok q') :
    q'.length ≤ cap := by
  obtain ⟨hlt, rfl⟩ := (pushBack_eq_ok_iff cap q q' b).1 h
  simpa using hlt

theorem pushMany_length_le {cap : Nat} {q q' f : List Byte} (hq : q.length ≤ cap) (h : pushMany cap q f = .ok q') :
    q'.length ≤ cap := by
  induction f generalizing q with
  | nil => cases h; exact hq
  | cons b f ih =>
    simp only [pushMany, bind, Except.bind] at h
    split at h
    · cases h
    · exact ih (pushBack_length_le ‹_›) h

theorem popMany_length_le {n : Nat} {q q' : List Byte} (h : popMany n q = .ok q') : q'.length ≤ q.length := by
  induction n generalizing q with
  | zero => cases h; exact le_rfl
  | succ n ih =>
    simp only [popMany, bind, Except.bind] at h
    split at h
    · cases h
    · exact (ih h).trans (popFront_length_le ‹_›)

/-- The power-on state's memories have the form. -/
theorem memory_wf_powerOn (p : Params) : Memory.wf (State.powerOn p) = true := by simp [Memory.wf, State.powerOn]

end Sys2Proof.Machine
end

