-- ==== Sys2Proof/Laws/Decoder.lean ====
section
/-! SUPPORT. What `Decode(n)` can do (42_frame_decoder.md R116 to R124), and that unescaping never lengthens a body
(R127). -/

namespace Sys2Proof.Machine

/-- Below 2 or past the buffer, `Decode(n)` fails (R116). -/
theorem decodeFrame_of_bad {n : Nat} {s : State} (h : n < 2 ∨ s.inBuf.length < n) :
    decodeFrame n s = .ok ((s.setFlag .malformed true).discardLatch, false) := by
  unfold decodeFrame
  exact if_pos h

/-- Within the buffer, `Decode(n)` pops `n` bytes and latches the code and the body (R117 to R124): no fault is reached. -/
theorem decodeFrame_of_good {n : Nat} {s : State} {c : Byte} (h2 : 2 ≤ n) (hn : n ≤ s.inBuf.length)
    (hc : s.inBuf[1]? = some c) :
    decodeFrame n s = .ok ((({ s with inBuf := s.inBuf.drop n } : State).fillLatch c
      (decodeBody s.cfg ((s.inBuf.take (n - 1)).drop 2))).clearLocated, true) := by
  have hraw : (s.inBuf.take n)[1]? = some c := by rw [List.getElem?_take_of_lt (by omega)]; exact hc
  have hbody : slice (s.inBuf.take n) 2 (n - 1) = (s.inBuf.take (n - 1)).drop 2 := by
    simp [slice, List.take_take]
  unfold decodeFrame
  rw [if_neg (by simp only [size]; omega), peekMany_of_le (by omega), popMany_of_le hn]
  simp only [List.drop_zero, bind, Except.bind, peek_of_getElem? hraw, hbody]

theorem unescape_length_le (p : Params) (r : List Byte) : (unescape p r).length ≤ r.length := by
  induction r using unescape.induct p with
  | case1 => simp [unescape]
  | case2 => simp [unescape]
  | case3 b hb => simp [unescape, hb]
  | case4 x r ih => simp [unescape]; omega
  | case5 b x r hb ih => simp [unescape, hb] at *; omega

theorem decodeBody_length_le (p : Params) (r : List Byte) : (decodeBody p r).length ≤ r.length := by
  unfold decodeBody; split
  · exact le_rfl
  · exact unescape_length_le p r

end Sys2Proof.Machine
end

