-- ==== Sys2Proof/Laws/Encoder.lean ====
section
/-! SUPPORT. What `Emit` and the end of an encode command can do (44_frame_encoder.md R155 to R158), and the masks that the
`STATUS` bits stand for (10_state.md R23). -/

namespace Sys2Proof.Machine

theorem withStatusBit_locValid (st : Byte) :
    withStatusBit st .locValid true = st ||| 0x01#8 ∧ withStatusBit st .locValid false = st &&& 0xFE#8 := ⟨rfl, rfl⟩

theorem withStatusBit_decValid (st : Byte) :
    withStatusBit st .decValid true = st ||| 0x02#8 ∧ withStatusBit st .decValid false = st &&& 0xFD#8 := ⟨rfl, rfl⟩

theorem withStatusBit_sticky (st : Byte) :
    withStatusBit st .malformed true = st ||| 0x04#8 ∧ withStatusBit st .inOvf true = st ||| 0x08#8 ∧
      withStatusBit st .outOvf true = st ||| 0x10#8 ∧ withStatusBit st .illegal true = st ||| 0x20#8 :=
  ⟨rfl, rfl, rfl, rfl⟩

/-- `Emit` reaches no fault: it leaves `afterFrame` and answers whether the frame fitted (R155). -/
theorem emit_eq (f : List Byte) (s : State) : emit f s = .ok (s.afterFrame f, s.fits f) := by
  unfold emit State.afterFrame State.fits size
  split
  · rename_i h
    rw [pushMany_of_le h]
    simp only [h, decide_true, if_true]
    rfl
  · rename_i h
    simp only [h, decide_false, Bool.false_eq_true, if_false]
    rfl

/-- The end of an encode command. -/
theorem emitAndFinish_eq (f : List Byte) (d : Half) (s : State) :
    emitAndFinish f d s = .ok ((s.afterFrame f).finish (if s.fits f then .ok else .overflow) d) := by
  simp only [emitAndFinish, emit_eq, bind, Except.bind]
  cases s.fits f <;> rfl

/-- An emission leaves every field but `OUT`, `STATUS` and `EVLOG` alone (R162). -/
theorem State.afterFrame_frame (s : State) (f : List Byte) :
    s.afterFrame f = { s with
      outBuf := (s.afterFrame f).outBuf, status := (s.afterFrame f).status, evlog := (s.afterFrame f).evlog } := by
  unfold State.afterFrame; split <;> rfl

@[simp] theorem State.afterFrame_inBuf (s : State) (f : List Byte) : (s.afterFrame f).inBuf = s.inBuf := by
  rw [State.afterFrame_frame]

@[simp] theorem State.afterFrame_result (s : State) (f : List Byte) : (s.afterFrame f).result = s.result := by
  rw [State.afterFrame_frame]

@[simp] theorem State.afterFrame_locLen (s : State) (f : List Byte) : (s.afterFrame f).locLen = s.locLen := by
  rw [State.afterFrame_frame]

@[simp] theorem State.afterFrame_decCode (s : State) (f : List Byte) : (s.afterFrame f).decCode = s.decCode := by
  rw [State.afterFrame_frame]

@[simp] theorem State.afterFrame_decBody (s : State) (f : List Byte) : (s.afterFrame f).decBody = s.decBody := by
  rw [State.afterFrame_frame]

@[simp] theorem State.afterFrame_dispKind (s : State) (f : List Byte) : (s.afterFrame f).dispKind = s.dispKind := by
  rw [State.afterFrame_frame]

@[simp] theorem State.afterFrame_cfg (s : State) (f : List Byte) : (s.afterFrame f).cfg = s.cfg := by
  rw [State.afterFrame_frame]

@[simp] theorem State.afterFrame_fault (s : State) (f : List Byte) : (s.afterFrame f).fault = s.fault := by
  rw [State.afterFrame_frame]

@[simp] theorem State.afterFrame_host (s : State) (f : List Byte) : (s.afterFrame f).host = s.host := by
  rw [State.afterFrame_frame]

@[simp] theorem State.afterFrame_pos (s : State) (f : List Byte) : (s.afterFrame f).pos = s.pos := by
  rw [State.afterFrame_frame]

@[simp] theorem State.afterFrame_responses (s : State) (f : List Byte) : (s.afterFrame f).responses = s.responses := by
  rw [State.afterFrame_frame]

@[simp] theorem State.afterFrame_answers (s : State) (f : List Byte) : (s.afterFrame f).answers = s.answers := by
  rw [State.afterFrame_frame]

@[simp] theorem State.afterFrame_draws (s : State) (f : List Byte) : (s.afterFrame f).draws = s.draws := by
  rw [State.afterFrame_frame]

/-- An emission keeps the form of the memories (20_memory.md R46). -/
theorem memory_wf_afterFrame {s : State} (f : List Byte) (h : Memory.wf s = true) :
    Memory.wf (s.afterFrame f) = true := by
  simp only [Memory.wf, Bool.and_eq_true, decide_eq_true_eq] at h ⊢
  refine ⟨by simpa using h.1, ?_⟩
  unfold State.afterFrame State.fits
  split
  · rename_i hfit
    simpa using hfit
  · exact h.2

end Sys2Proof.Machine
end

