-- ==== Sys2Proof/Laws/Dispatcher.lean ====
section
/-! SUPPORT. What the arms of the dispatch table can do (43_command_dispatcher.md R133 to R145): no arm reaches a fault,
and what each leaves is said once. -/

namespace Sys2Proof.Machine

theorem emitNoting_eq (f : List Byte) (s : State) (d : Bool) :
    emitNoting f s d = .ok (s.afterFrame f, d || !s.fits f) := by
  simp only [emitNoting, emit_eq, bind, Except.bind]

/-- The state an action's arm leaves once its ACK is attempted and its request made, and the frame it may have dropped. -/
def afterRequest (x : Option (List Byte) × State) (d : Bool) : State × Bool :=
  match x with
  | (none, s) => (s.setDispKind .ack, d)
  | (some text, s) => ((s.afterFrame (resFrame s.cfg text)).setDispKind .ackRes, d || !s.fits (resFrame s.cfg text))

/-- What an entry's arm leaves and answers, as a function of the state. -/
def entryRun (e : Descriptor) (c : Byte) (body : List Byte) (s : State) : State × Bool :=
  match e with
  | .passThrough => ((s.afterFrame (passFrame s.cfg c body)).setDispKind .pass, !s.fits (passFrame s.cfg c body))
  | .unknown => ((s.afterFrame (nackFrame s.cfg c)).setDispKind .nack, !s.fits (nackFrame s.cfg c))
  | .ackThenAction a _ =>
    afterRequest (request a body (s.afterFrame (ackFrame s.cfg c))) (!s.fits (ackFrame s.cfg c))

/-- Every entry runs to its end, in every state, with no fault. -/
theorem runEntry_eq (e : Descriptor) (c : Byte) (body : List Byte) (s : State) :
    runEntry e c body s = .ok (entryRun e c body s) := by
  cases e with
  | passThrough => simp only [runEntry, passThroughArm, emitNoting_eq, bind, Except.bind, Bool.false_or, entryRun]
  | unknown => simp only [runEntry, unknownArm, emitNoting_eq, bind, Except.bind, Bool.false_or, entryRun]
  | ackThenAction a p =>
    simp only [runEntry, ackThenActionArm, emitNoting_eq, bind, Except.bind, Bool.false_or, entryRun]
    rcases request a body (s.afterFrame (ackFrame s.cfg c)) with ⟨_ | text, s₂⟩ <;> rfl

theorem dispatchEntry_eq (e : Descriptor) (c : Byte) (body : List Byte) (data : Half) (s : State) :
    dispatchEntry e c body data s =
      .ok ((entryRun e c body s).1.finish (entryResult e (entryRun e c body s).2) data) := by
  simp only [dispatchEntry, runEntry_eq, bind, Except.bind]

/-- No entry of the table takes the policy "exact" (30_encoding.md R78). -/
theorem dispatchTable_not_exact :
    ∀ x ∈ dispatchTable, x.2 ∉ [Action.beacon, .deployAntenna, .reportStatus, .haltRadio].map (.ackThenAction · .exact) := by
  decide

/-- The entry a code selects, by the five listed codes (30_encoding.md R76). -/
theorem lookupCode_eq (c : Byte) : lookupCode c =
    if c = 0x00#8 then .passThrough
    else if c = 0x07#8 then .ackThenAction .beacon .maximum
    else if c = 0x08#8 then .ackThenAction .deployAntenna .none
    else if c = 0x09#8 then .ackThenAction .reportStatus .none
    else if c = 0x0A#8 then .ackThenAction .haltRadio .none
    else .unknown := by
  revert c; decide

end Sys2Proof.Machine
end

