-- ==== Sys2Proof/Laws/Locator.lean ====
section
/-! SUPPORT. What the loops of `Locate()` come to on the list of the buffer's bytes (41_frame_locator.md R101 to R105). -/

namespace Sys2Proof.Machine

/-- Step 2 removes the bytes before the first `FEND`. -/
theorem discardGarbage_eq {n : Nat} {q : List Byte} (h : q.length ≤ n) :
    discardGarbage n q = .ok (q.dropWhile (· != FEND)) := by
  induction n generalizing q with
  | zero => cases q with
    | nil => rfl
    | cons b q => simp at h
  | succ n ih => cases q with
    | nil => rfl
    | cons b q =>
      by_cases hb : b = FEND
      · simp [discardGarbage, size, hb, bind, Except.bind]
      · simpa [discardGarbage, size, hb, bind, Except.bind] using ih (by simpa using h)

/-- What step 3 leaves. -/
def collapsed : List Byte → List Byte
  | a :: b :: c :: q => if a = FEND ∧ b = FEND then collapsed (b :: c :: q) else a :: b :: c :: q
  | q => q

theorem collapseFends_eq {n : Nat} {q : List Byte} (h : q.length ≤ n) : collapseFends n q = .ok (collapsed q) := by
  induction n generalizing q with
  | zero => cases q with
    | nil => rfl
    | cons b q => simp at h
  | succ n ih => match q with
    | [] | [_] | [_, _] => simp [collapseFends, collapsed, size]
    | a :: b :: c :: q =>
      by_cases hab : a = FEND ∧ b = FEND
      · simpa [collapseFends, collapsed, size, hab, bind, Except.bind] using ih (q := FEND :: c :: q) (by simpa using h)
      · simp [collapseFends, collapsed, size, hab, bind, Except.bind]

/-- The scan finds the first `FEND` of the bytes it looks at. -/
theorem scanFend_eq {q : List Byte} {i n : Nat} (h : i + n = q.length) :
    scanFend q i n = .ok (((q.drop i).findIdx? (· == FEND)).map (· + i + 1)) := by
  induction n generalizing i with
  | zero => simp [scanFend, List.drop_eq_nil_of_le (show q.length ≤ i by omega)]
  | succ n ih =>
    have hi : i < q.length := by omega
    rw [scanFend, peek_of_lt hi, List.drop_eq_getElem_cons hi, List.findIdx?_cons]
    by_cases hb : q[i] = FEND
    · simp [hb, bind, Except.bind]
    · rw [bind, Monad.toBind, Except.instMonad]
      simp only [Except.bind, hb, if_false, ih (show i + 1 + n = q.length by omega)]
      simp [hb, Function.comp_def, Option.map_map, show ∀ a : Nat, a + (i + 1) + 1 = a + 1 + i + 1 by omega]

/-- What `Locate()` answers and leaves, as a function of the buffer: no fault is reached (R112). -/
def located (q : List Byte) : Option Nat × List Byte :=
  let q' := collapsed (q.dropWhile (· != FEND))
  (if q'.length < 3 then none else ((q'.drop 2).findIdx? (· == FEND)).map (· + 3), q')

theorem locate_eq (q : List Byte) : locate q = .ok (located q) := by
  by_cases hq : q.length = 0
  · rw [List.length_eq_zero_iff.1 hq]; rfl
  · rw [locate, size, if_neg hq, discardGarbage_eq le_rfl]
    simp only [located, size, bind, Except.bind]
    generalize q.dropWhile (· != FEND) = g
    by_cases hg : g.length = 0
    · rw [List.length_eq_zero_iff.1 hg]; rfl
    · simp only [hg, if_false, collapseFends_eq le_rfl]
      by_cases hs : (collapsed g).length < 3
      · simp only [hs, if_true]
      · simp only [hs, if_false]
        rw [scanFend_eq (by omega)]

end Sys2Proof.Machine
end

