-- ==== Sys2Proof/Laws/PerInstr.lean ====
section
/-! SUPPORT. The family `DecodedIsWellFormed`: an instruction the decoder answers is well formed, stated per instruction
and shown for every constructor (30_encoding.md R71, R77). -/

namespace Sys2Proof.Laws

/-- Whatever encoding decodes to `i`, `i` is well formed. -/
def DecodedIsWellFormed.Statement (i : Instr) : Prop := ∀ e : Encoded, decode e = i → i.wf = true

theorem DecodedIsWellFormed.nop (b : Byte) (l : Half) : Statement (.nop b l) := fun _ _ => rfl
theorem DecodedIsWellFormed.pushIn (b : Byte) (l : Half) : Statement (.pushIn b l) := fun _ _ => rfl
theorem DecodedIsWellFormed.popOut (b : Byte) (l : Half) : Statement (.popOut b l) := fun _ _ => rfl
theorem DecodedIsWellFormed.dropIn (b : Byte) (l : Half) : Statement (.dropIn b l) := fun _ _ => rfl
theorem DecodedIsWellFormed.locate (b : Byte) (l : Half) : Statement (.locate b l) := fun _ _ => rfl
theorem DecodedIsWellFormed.decode (b : Byte) (l : Half) : Statement (.decode b l) := fun _ _ => rfl
theorem DecodedIsWellFormed.dispatch (b : Byte) (l : Half) : Statement (.dispatch b l) := fun _ _ => rfl
theorem DecodedIsWellFormed.encAck (b : Byte) (l : Half) : Statement (.encAck b l) := fun _ _ => rfl
theorem DecodedIsWellFormed.encNack (b : Byte) (l : Half) : Statement (.encNack b l) := fun _ _ => rfl
theorem DecodedIsWellFormed.encRes (b : Byte) (l : Half) : Statement (.encRes b l) := fun _ _ => rfl
theorem DecodedIsWellFormed.poll (b : Byte) (l : Half) : Statement (.poll b l) := fun _ _ => rfl
theorem DecodedIsWellFormed.read (b : Byte) (l : Half) : Statement (.read b l) := fun _ _ => rfl
theorem DecodedIsWellFormed.readBody (b : Byte) (l : Half) : Statement (.readBody b l) := fun _ _ => rfl
theorem DecodedIsWellFormed.clearStatus (b : Byte) (l : Half) : Statement (.clearStatus b l) := fun _ _ => rfl
theorem DecodedIsWellFormed.reservedOpE (b : Byte) (l : Half) : Statement (.reservedOpE b l) := fun _ _ => rfl
theorem DecodedIsWellFormed.reservedOpF (b : Byte) (l : Half) : Statement (.reservedOpF b l) := fun _ _ => rfl
theorem DecodedIsWellFormed.codePassThrough (body : List Byte) : Statement (.codePassThrough body) := fun _ _ => rfl
theorem DecodedIsWellFormed.codeBeacon (body : List Byte) : Statement (.codeBeacon body) := fun _ _ => rfl
theorem DecodedIsWellFormed.codeDeployAntenna (body : List Byte) : Statement (.codeDeployAntenna body) := fun _ _ => rfl
theorem DecodedIsWellFormed.codeReportStatus (body : List Byte) : Statement (.codeReportStatus body) := fun _ _ => rfl
theorem DecodedIsWellFormed.codeHaltRadio (body : List Byte) : Statement (.codeHaltRadio body) := fun _ _ => rfl

theorem DecodedIsWellFormed.reservedRsv (op rsv : Nibble) (b : Byte) (l : Half) :
    Statement (.reservedRsv op rsv b l) := by
  intro e h
  cases e with
  | wire c body => simp only [Sys2Proof.decode, decodeCommand] at h; split at h <;> cases h
  | word w =>
    simp only [Sys2Proof.decode, decodeWord] at h
    split at h
    · simp only [decodeOp] at h; split at h <;> cases h
    · cases h; simpa [Instr.wf] using ‹_›

theorem DecodedIsWellFormed.codeUnrecognized (code : Byte) (body : List Byte) :
    Statement (.codeUnrecognized code body) := by
  intro e h
  cases e with
  | word w =>
    simp only [Sys2Proof.decode, decodeWord] at h
    split at h
    · simp only [decodeOp] at h; split at h <;> cases h
    · cases h
  | wire c b =>
    simp only [Sys2Proof.decode, decodeCommand] at h
    split at h <;> cases h
    simp only [Instr.wf, Bool.not_eq_true', recognizedCodes]
    revert code
    decide

end Sys2Proof.Laws
end

