-- ==== Sys2Proof/Laws/Step.lean ====
section
/-! SUPPORT. Everything one step can do, said once: the inversion of `step`, and what `withFetchWord` puts before it. -/

namespace Sys2Proof.Machine

/-- If a step answers a next state, no fault was recorded, and the block was idle, was reset, or executed the decoded
command word. -/
theorem step_cases {s t : State} (h : step s = .next t) :
    s.fault = none ∧
      ((fetch s = none ∧ t = s) ∨
        (fetch s = some .reset ∧ t = s.resetEvent.advance) ∨
        ∃ w u, fetch s = some (.command w) ∧ exec (decode (.word w)) s = .next u ∧ t = u.advance) := by
  unfold step at h
  split at h
  · cases h
  · refine ⟨‹_›, ?_⟩
    split at h
    · cases h; exact .inl ⟨‹_›, rfl⟩
    · cases h; exact .inr (.inl ⟨‹_›, rfl⟩)
    · split at h <;> cases h
      exact .inr (.inr ⟨_, _, ‹_›, ‹_›, rfl⟩)

/-- The host's next event of a list written by `placeEvent` is the one it was given. -/
theorem placeEvent_getElem? (host : List HostEvent) (pos : Nat) (e : HostEvent) :
    (placeEvent host pos e)[pos]? = some e := by
  have hl : (host.take pos ++ List.replicate (pos - host.length) (HostEvent.command 0x00000000#32)).length = pos := by
    simp; omega
  unfold placeEvent
  rw [List.getElem?_append_right (by omega), hl]
  simp

theorem fetch_withCommand (s : State) (w : Word) : fetch (s.withCommand w) = some (.command w) :=
  placeEvent_getElem? s.host s.pos (.command w)

/-- A table row of 32 bits is the host's next command word. -/
theorem fetch_withFetchWord_word (s : State) (w : Nat) :
    fetch (s.withFetchWord 32 w) = some (.command (BitVec.ofNat 32 w)) := fetch_withCommand s _

/-- A table row of 8 bits is latched, and the host's next command word is `DISPATCH`. -/
theorem fetch_withFetchWord_code (s : State) (w : Nat) :
    fetch (s.withFetchWord 8 w) = some (.command 0x00000006#32) ∧
      (s.withFetchWord 8 w).flag .decValid = true ∧ (s.withFetchWord 8 w).decCode = BitVec.ofNat 8 w ∧
      (s.withFetchWord 8 w).decBody = [] :=
  ⟨fetch_withCommand _ _, by simp [State.withFetchWord, State.withCommand, State.flag], rfl, rfl⟩

end Sys2Proof.Machine
end

