-- ==== Sys2Proof/Tests/Slice0.lean ====
section
/-! SUPPORT. Tests: the well-formedness checks, the decoding of words written out from the spec's encodings, one step of
each instruction with the values of spec/95_test_vectors.md, and for each statement with hypotheses a state and operands
that meet them. -/

namespace Sys2Proof.Tests

open Sys2Proof Sys2Proof.Machine

/-! ### Helpers -/

/-- The parameters of 95_test_vectors.md section 0. -/
def params : Params :=
  { inCap := 512#16, outCap := 8192#16, maxCommandSize := 16#16, escapeMode := .none, fesc := 0xDB#8, tfend := 0xDC#8,
    tfesc := 0xDD#8 }

/-- The same with escaping. -/
def kissParams : Params := { params with escapeMode := .kiss }

/-- The power-on state with `IN` preloaded. -/
def start (p : Params) (q : List Byte) : State := { State.powerOn p with inBuf := q }

/-- The power-on state with `(c, body)` latched and the status text "OK" scripted. -/
def latched (p : Params) (c : Byte) (body : List Byte) : State :=
  { State.powerOn p with status := 0x02#8, decCode := c, decBody := body, answers := [[0x4F#8, 0x4B#8]] }

/-- The next state's view `f`, if the outcome is a next state. -/
def seen {α : Type} (f : State → α) (o : Host.Outcome State Fault Refusal) : Option α :=
  match o with
  | .next t => some (f t)
  | .fault _ | .refused _ => none

/-- What a host event list leaves, one step each. -/
def stepOnce (s : State) (e : HostEvent) : Host.Outcome State Fault Refusal := step { s with host := [e] }

/-! ### Well-formedness: each check refuses an ill-formed term -/

theorem test_wf_refuses_reserved_rsv_zero : Instr.wf (.reservedRsv 0x0#4 0x0#4 0x00#8 0#16) = false := by decide
theorem test_wf_refuses_a_recognized_code : Instr.wf (.codeUnrecognized 0x09#8 []) = false := by decide
theorem test_wf_refuses_in_cap_zero : Params.wf { params with inCap := 0#16 } = false := by decide
theorem test_wf_refuses_out_cap_zero : Params.wf { params with outCap := 0#16 } = false := by decide
theorem test_wf_refuses_equal_escapes : Params.wf { kissParams with tfesc := 0xDC#8 } = false := by decide
theorem test_wf_refuses_a_marker_as_fesc : Params.wf { kissParams with fesc := 0x52#8 } = false := by decide
theorem test_wf_accepts : Params.wf kissParams = true ∧ Params.wf { params with fesc := 0x52#8 } = true := by decide

/-! ### Decoding: words as 30_encoding.md R65 and R68 lay them out, and the codes of R76 -/

theorem test_decode_nop : decode (.word 0xABCD1200#32) = .nop 0x12#8 0xABCD#16 := by decide
theorem test_decode_push_in : decode (.word 0x0000C001#32) = .pushIn 0xC0#8 0#16 := by decide
theorem test_decode_pop_out : decode (.word 0x00000002#32) = .popOut 0x00#8 0#16 := by decide
theorem test_decode_drop_in : decode (.word 0xFFFF0003#32) = .dropIn 0x00#8 0xFFFF#16 := by decide
theorem test_decode_locate : decode (.word 0x00000004#32) = .locate 0x00#8 0#16 := by decide
theorem test_decode_decode : decode (.word 0x00050005#32) = .decode 0x00#8 5#16 := by decide
theorem test_decode_dispatch : decode (.word 0x00000006#32) = .dispatch 0x00#8 0#16 := by decide
theorem test_decode_enc_ack : decode (.word 0x00000907#32) = .encAck 0x09#8 0#16 := by decide
theorem test_decode_enc_nack : decode (.word 0x0000FF08#32) = .encNack 0xFF#8 0#16 := by decide
theorem test_decode_enc_res : decode (.word 0x00000009#32) = .encRes 0x00#8 0#16 := by decide
theorem test_decode_poll : decode (.word 0x0000000A#32) = .poll 0x00#8 0#16 := by decide
theorem test_decode_read : decode (.word 0x0000020B#32) = .read 0x02#8 0#16 := by decide
theorem test_decode_read_body : decode (.word 0x0004000C#32) = .readBody 0x00#8 4#16 := by decide
theorem test_decode_clear_status : decode (.word 0x0000000D#32) = .clearStatus 0x00#8 0#16 := by decide
theorem test_decode_reserved_op_e : decode (.word 0x0000000E#32) = .reservedOpE 0x00#8 0#16 := by decide
theorem test_decode_reserved_op_f : decode (.word 0x0000000F#32) = .reservedOpF 0x00#8 0#16 := by decide
theorem test_decode_reserved_rsv : decode (.word 0x00000010#32) = .reservedRsv 0x0#4 0x1#4 0x00#8 0#16 := by decide
theorem test_decode_code_pass_through : decode (.wire 0x00#8 [0x41#8]) = .codePassThrough [0x41#8] := by decide
theorem test_decode_code_beacon : decode (.wire 0x07#8 [0x41#8]) = .codeBeacon [0x41#8] := by decide
theorem test_decode_code_deploy_antenna : decode (.wire 0x08#8 []) = .codeDeployAntenna [] := by decide
theorem test_decode_code_report_status : decode (.wire 0x09#8 []) = .codeReportStatus [] := by decide
theorem test_decode_code_halt_radio : decode (.wire 0x0A#8 []) = .codeHaltRadio [] := by decide
theorem test_decode_code_unrecognized : decode (.wire 0xFF#8 []) = .codeUnrecognized 0xFF#8 [] := by decide

theorem test_table_word : decodeTableWord 32 0x0000C001 = some (.pushIn 0xC0#8 0#16) ∧
    decodeTableWord 8 0x09 = some (.codeReportStatus []) ∧ decodeTableWord 16 0 = none := by decide

/-! ### One step of each instruction (95_test_vectors.md) -/

/-- CTL-1. -/
theorem test_nop : seen (fun t => (t.result, t.responses)) (exec (.nop 0x12#8 7#16) { start params [] with result := 5#4 })
    = some (5#4, [0x00000000#32]) := by decide
/-- RING-1. -/
theorem test_push_in : seen (fun t => (t.inBuf, t.responses)) (exec (.pushIn 0xC0#8 0#16) (start params [0xC0#8, 0x09#8]))
    = some ([0xC0#8, 0x09#8, 0xC0#8], [0x00000000#32]) := by decide
/-- RING-2. -/
theorem test_push_in_overflow : seen (fun t => (t.inBuf, t.status, t.responses))
      (exec (.pushIn 0x41#8 0#16) (start { params with inCap := 3#16 } [1#8, 2#8, 3#8]))
    = some ([1#8, 2#8, 3#8], 0x08#8, [0x00000005#32]) := by decide
/-- RING-5. -/
theorem test_pop_out : seen (fun t => (t.outBuf, t.responses))
      (exec (.popOut 0x00#8 0#16) { start params [] with outBuf := [0xC0#8, 0x00#8, 0x41#8] })
    = some ([0x00#8, 0x41#8], [0x00C00000#32]) := by decide
/-- RING-3. -/
theorem test_pop_out_empty : seen (fun t => (t.result, t.responses)) (exec (.popOut 0x00#8 0#16) (start params []))
    = some (1#4, [0x00000001#32]) := by decide
/-- RING-7. -/
theorem test_drop_in : seen (fun t => (t.inBuf, t.responses))
      (exec (.dropIn 0x00#8 1#16) (start params [0xC0#8, 0x05#8, 0x41#8]))
    = some ([0x05#8, 0x41#8], [0x00010000#32]) := by decide
/-- RING-8. -/
theorem test_drop_in_all : seen (fun t => (t.inBuf, t.responses))
      (exec (.dropIn 0x00#8 0xFFFF#16) (start params [0xC0#8, 0x05#8, 0x41#8]))
    = some ([], [0x00030000#32]) := by decide
/-- LOC-15. -/
theorem test_locate : seen (fun t => (t.inBuf, t.status, t.locLen, t.responses))
      (exec (.locate 0x00#8 0#16) (start params [0x41#8, 0xC0#8, 0xC0#8, 0x42#8, 0x43#8, 0xC0#8, 0x44#8]))
    = some ([0xC0#8, 0x42#8, 0x43#8, 0xC0#8, 0x44#8], 0x01#8, 4#16, [0x00040000#32]) := by decide
/-- LOC-6. -/
theorem test_locate_fends : seen (fun t => (t.inBuf, t.responses))
      (exec (.locate 0x00#8 0#16) (start params [0xC0#8, 0xC0#8, 0xC0#8, 0xC0#8]))
    = some ([0xC0#8, 0xC0#8], [0x00000001#32]) := by decide
/-- DEC-8. -/
theorem test_decode_kiss : seen (fun t => (t.inBuf, t.status, t.decBody, t.responses))
      (exec (.decode 0x00#8 6#16) (start kissParams [0xC0#8, 0x00#8, 0xDB#8, 0xDC#8, 0x01#8, 0xC0#8]))
    = some ([], 0x02#8, [0xC0#8, 0x01#8], [0x00020000#32]) := by decide
/-- DEC-16. -/
theorem test_decode_bad_length : seen (fun t => (t.status, t.decCode, t.decBody, t.responses))
      (exec (.decode 0x00#8 1#16) { latched params 0x07#8 [0x41#8] with inBuf := [0xC0#8, 0x09#8, 0xC0#8] })
    = some (0x04#8, 0x00#8, [], [0x00000002#32]) := by decide
/-- DSP-1. -/
theorem test_dispatch_no_command : seen (fun t => (t.outBuf, t.responses)) (exec (.dispatch 0x00#8 0#16) (start params []))
    = some ([], [0x00000004#32]) := by decide
/-- DSP-12. -/
theorem test_dispatch_drops : seen (fun t => (t.outBuf, t.status, t.evlog, t.responses))
      (exec (.dispatch 0x00#8 0#16)
        { latched { params with outCap := 10#16 } 0x09#8 [] with outBuf := [1#8, 2#8, 3#8, 4#8] })
    = some ([1#8, 2#8, 3#8, 4#8], 0x10#8,
        [.dropped [0xC0#8, 0x00#8, 0x41#8, 0x43#8, 0x4B#8, 0x09#8, 0xC0#8], .capStatus [0x4F#8, 0x4B#8],
          .dropped [0xC0#8, 0x00#8, 0x52#8, 0x45#8, 0x53#8, 0x4F#8, 0x4B#8, 0xC0#8]], [0x00090005#32]) := by decide
/-- ENC-6. -/
theorem test_enc_ack : seen (fun t => (t.outBuf, t.responses)) (exec (.encAck 0xC0#8 0#16) (start kissParams []))
    = some ([0xC0#8, 0x00#8, 0x41#8, 0x43#8, 0x4B#8, 0xDB#8, 0xDC#8, 0xC0#8], [0x00080000#32]) := by decide
/-- ENC-8. -/
theorem test_enc_ack_overflow : seen (fun t => (t.outBuf, t.status, t.responses))
      (exec (.encAck 0x09#8 0#16) (start { params with outCap := 6#16 } []))
    = some ([], 0x10#8, [0x00070005#32]) := by decide
/-- ENC-7. -/
theorem test_enc_nack : seen (fun t => (t.outBuf, t.responses)) (exec (.encNack 0xDB#8 0#16) (start kissParams []))
    = some ([0xC0#8, 0x00#8, 0x4E#8, 0x41#8, 0x43#8, 0x4B#8, 0xDB#8, 0xDD#8, 0xC0#8], [0x00090000#32]) := by decide
/-- ENC-10. -/
theorem test_enc_res : seen (fun t => (t.outBuf, t.status, t.responses))
      (exec (.encRes 0x00#8 0#16) (latched kissParams 0x00#8 [0xC0#8, 0xDB#8]))
    = some ([0xC0#8, 0x00#8, 0x52#8, 0x45#8, 0x53#8, 0xDB#8, 0xDC#8, 0xDB#8, 0xDD#8, 0xC0#8], 0x02#8, [0x000A0000#32]) := by
  decide
/-- ENC-3. -/
theorem test_enc_res_no_command : seen (fun t => (t.result, t.responses)) (exec (.encRes 0x00#8 0#16) (start params []))
    = some (4#4, [0x00000004#32]) := by decide
/-- POLL-2. -/
theorem test_poll : seen (fun t => (t.inBuf, t.outBuf, t.dispKind, t.responses))
      (exec (.poll 0x00#8 0#16) (start params [0xC0#8, 0xFF#8, 0xC0#8]))
    = some ([], [0xC0#8, 0x00#8, 0x4E#8, 0x41#8, 0x43#8, 0x4B#8, 0xFF#8, 0xC0#8], 4#3, [0x00030003#32]) := by decide
/-- POLL-3. -/
theorem test_poll_latched : seen (fun t => (t.inBuf, t.evlog.length, t.responses))
      (exec (.poll 0x00#8 0#16) { latched params 0x09#8 [] with inBuf := [0xC0#8, 0x0A#8, 0xC0#8] })
    = some ([0xC0#8, 0x0A#8, 0xC0#8], 3, [0x00000000#32]) := by decide
/-- CTL-10. -/
theorem test_read : seen (fun t => t.responses) (exec (.read 0x09#8 0#16) (start params [])) = some [0x20000000#32] := by
  decide
/-- CTL-3. -/
theorem test_read_reserved : seen (fun t => (t.status, t.result, t.responses)) (exec (.read 0x0C#8 0#16) (start params []))
    = some (0x20#8, 6#4, [0x00000006#32]) := by decide
/-- CTL-6. -/
theorem test_read_body : seen (fun t => t.responses)
      (exec (.readBody 0x00#8 4#16) (latched params 0x07#8 [0x48#8, 0x45#8, 0x4C#8, 0x4C#8, 0x4F#8]))
    = some [0x004F0000#32] := by decide
/-- CTL-7. -/
theorem test_read_body_past : seen (fun t => (t.status, t.responses))
      (exec (.readBody 0x00#8 5#16) (latched params 0x07#8 [0x48#8, 0x45#8, 0x4C#8, 0x4C#8, 0x4F#8]))
    = some (0x22#8, [0x00000006#32]) := by decide
/-- 45_poll_and_control.md R170, the rule's example. -/
theorem test_clear_status : seen (fun t => t.status) (exec (.clearStatus 0x00#8 0#16) { start params [] with status := 0x26#8 })
    = some 0x02#8 := by decide
/-- CTL-8. -/
theorem test_reserved_op_e : seen (fun t => (t.status, t.responses)) (exec (.reservedOpE 0x00#8 0#16) (start params []))
    = some (0x20#8, [0x00000006#32]) := by decide
/-- CTL-8. -/
theorem test_reserved_op_f : seen (fun t => (t.status, t.responses)) (exec (.reservedOpF 0x00#8 0#16) (start params []))
    = some (0x20#8, [0x00000006#32]) := by decide
/-- CTL-8: `OP = 0` with `RSV = 1` is no `NOP`. -/
theorem test_reserved_rsv : seen (fun t => (t.result, t.responses)) (exec (decode (.word 0x00000010#32)) (start params []))
    = some (6#4, [0x00000006#32]) := by decide
/-- DSP-2. -/
theorem test_code_pass_through : seen (fun t => (t.outBuf, t.dispKind, t.responses))
      (exec (.dispatch 0x00#8 0#16) (latched params 0x00#8 [0x41#8, 0x42#8]))
    = some ([0xC0#8, 0x00#8, 0x41#8, 0x42#8, 0xC0#8], 1#3, [0x00000000#32]) := by decide
/-- DSP-4. -/
theorem test_code_beacon : seen (fun t => (t.dispKind, t.evlog.drop 1))
      (exec (.codeBeacon [0x48#8, 0x45#8, 0x4C#8, 0x4C#8, 0x4F#8]) (start { params with maxCommandSize := 4#16 } []))
    = some (2#3, [.capBeacon [0x48#8, 0x45#8, 0x4C#8, 0x4C#8]]) := by decide
/-- DSP-6. -/
theorem test_code_deploy_antenna : seen (fun t => (t.outBuf, t.dispKind, t.responses))
      (exec (.dispatch 0x00#8 0#16) (latched params 0x08#8 []))
    = some ([0xC0#8, 0x00#8, 0x41#8, 0x43#8, 0x4B#8, 0x08#8, 0xC0#8, 0xC0#8, 0x00#8, 0x52#8, 0x45#8, 0x53#8, 0x4F#8,
        0x4B#8, 0xC0#8], 3#3, [0x00080000#32]) := by decide
/-- DSP-7: the body is ignored. -/
theorem test_code_report_status : seen (fun t => (t.dispKind, t.evlog[1]?, t.responses))
      (exec (.dispatch 0x00#8 0#16) (latched params 0x09#8 [0x41#8]))
    = some (3#3, some (.capStatus [0x4F#8, 0x4B#8]), [0x00090000#32]) := by decide
/-- DSP-8. -/
theorem test_code_halt_radio : seen (fun t => (t.outBuf, t.dispKind, t.evlog[1]?))
      (exec (.codeHaltRadio []) (start params []))
    = some ([0xC0#8, 0x00#8, 0x41#8, 0x43#8, 0x4B#8, 0x0A#8, 0xC0#8], 2#3, some .capHalt) := by decide
/-- DSP-13: `OVERFLOW` wins over `UNRECOGNIZED`. -/
theorem test_code_unrecognized : seen (fun t => (t.status, t.dispKind, t.responses))
      (exec (.dispatch 0x00#8 0#16) (latched { params with outCap := 5#16 } 0xFF#8 []))
    = some (0x10#8, 4#3, [0x00FF0005#32]) := by decide
/-- R133, R138, R150 and notes/assumptions/17.md: a listed code runs its own entry where `FESC` equals it. -/
theorem test_code_halt_radio_as_fesc : seen (fun t => (t.evlog, t.dispKind, t.responses))
      (exec (.dispatch 0x00#8 0#16) (latched { kissParams with fesc := 0x0A#8 } 0x0A#8 []))
    = some ([.frame [0xC0#8, 0x00#8, 0x41#8, 0x43#8, 0x4B#8, 0x0A#8, 0xDD#8, 0xC0#8], .capHalt], 2#3, [0x000A0000#32]) := by
  decide
/-- R128, R139, R151: a code byte equal to `FESC` is unrecognized, and the NACK carries it escaped. -/
theorem test_code_fesc_is_unrecognized : seen (fun t => (t.evlog, t.dispKind, t.responses))
      (exec (.dispatch 0x00#8 0#16) (latched kissParams 0xDB#8 []))
    = some ([.frame [0xC0#8, 0x00#8, 0x4E#8, 0x41#8, 0x43#8, 0x4B#8, 0xDB#8, 0xDD#8, 0xC0#8]], 4#3, [0x00DB0003#32]) := by
  decide
/-- RST-1. -/
theorem test_reset : seen (fun t => (t.inBuf, t.outBuf, t.status, t.decBody, t.evlog))
      (stepOnce { latched params 0x07#8 [0x41#8] with
        inBuf := [0xC0#8, 0x09#8], outBuf := [0xC0#8], status := 0x3E#8, result := 5#4, dispKind := 2#3 } .reset)
    = some ([], [], 0x00#8, [], [.reset]) := by decide
/-- A table row runs as the first step after reset. -/
theorem test_with_fetch_word :
    seen (fun t => t.responses) (step (State.reset.withFetchWord 32 0x00000002)) = some [0x00000001#32] ∧
    seen (fun t => t.responses) (step (State.reset.withFetchWord 8 0x0A)) = some [0x000A0000#32] := by decide

/-! ### Witnesses: for each statement with hypotheses, a case that meets them -/

theorem witness_decode_of_encode :
    Instr.wf (.reservedRsv 0x0#4 0xF#4 0x00#8 0#16) = true ∧ Instr.wf (.codeUnrecognized 0xFF#8 []) = true := by decide
theorem witness_every_word :
    (0xFFFFFF1F#32 : Word).toNat / 2 ^ 4 % 2 ^ 4 ≠ 0 ∧ (0xFFFFFF0E#32 : Word).toNat / 2 ^ 4 % 2 ^ 4 = 0 ∧
      (0xFFFFFF0E#32 : Word).toNat % 2 ^ 4 = 0xE ∧ (0x0000000F#32 : Word).toNat % 2 ^ 4 = 0xF := by decide
theorem witness_step_runs :
    let s : State := { start params [] with host := [.command 0x0000C001#32] }
    s.fault = none ∧ fetch s = some (.command 0x0000C001#32) ∧ ∃ t, exec (decode (.word 0x0000C001#32)) s = .next t :=
  ⟨rfl, rfl, _, rfl⟩
theorem witness_reset_event :
    let s : State := { latched params 0x07#8 [0x41#8] with host := [.reset] }
    s.fault = none ∧ fetch s = some .reset := by decide
theorem witness_idle : (start params [0xC0#8]).fault = none ∧ fetch (start params [0xC0#8]) = none := by decide
theorem witness_step_advances :
    let s : State := { start params [] with host := [.command 0x00000000#32, .reset], pos := 1 }
    s.fault = none ∧ fetch s = some .reset := by decide
theorem witness_no_step_faults : (latched params 0x09#8 []).fault = none := rfl
theorem witness_parameters : ∃ t, step { start params [] with host := [.command 0x0000000A#32] } = .next t := ⟨_, rfl⟩
theorem witness_buffers :
    (∃ t, exec (decode (.word 0x0000C001#32)) (start params []) = .next t) ∧
      ∃ t, exec (decode (.word 0x00000002#32)) { start params [] with outBuf := [0xC0#8] } = .next t :=
  ⟨⟨_, rfl⟩, _, rfl⟩
theorem witness_event_log : ∃ t, step { start params [] with host := [.command 0x00000907#32] } = .next t := ⟨_, rfl⟩

/-- A state with a frame located, a command latched, and sticky bits set. -/
def busy : State :=
  { latched params 0x07#8 [0x41#8] with
    inBuf := [0xC0#8, 0x09#8, 0xC0#8], outBuf := [0x41#8], status := 0x3F#8, result := 6#4, locLen := 3#16,
    dispKind := 4#3, host := [.command 0x0000000A#32] }

theorem witness_invariants : busy.Inv ∧ ∃ t, step busy = .next t :=
  ⟨{ params := by decide, memory := by decide, statusReserved := by decide, resultLegal := by decide,
     dispKindLegal := by decide, notLocated := by decide, located := by decide, notLatched := by decide,
     bodyFits := by decide, noFault := rfl }, _, rfl⟩
theorem witness_power_on : (start kissParams [0xC0#8]).cfg = kissParams := rfl
theorem witness_read :
    ([busy.status.setWidth 16, busy.result.setWidth 16] : List Half)[(0x01#8 : Byte).toNat]? = some 6#16 ∧ 0x0C ≤ (0x0C#8 : Byte).toNat ∧
      busy.inBuf.length ≤ 65535 ∧ busy.outBuf.length ≤ 65535 ∧ busy.decBody.length ≤ 65535 := by decide
theorem witness_read_body :
    (latched params 0x07#8 [0x48#8, 0x45#8]).decBody[(1#16 : Half).toNat]? = some 0x45#8 ∧
      (latched params 0x07#8 [0x48#8, 0x45#8]).decBody.length ≤ (2#16 : Half).toNat := by decide
theorem witness_reserved :
    let i := Instr.reservedOpE 0x00#8 0#16
    i = .reservedOpE 0x00#8 0#16 ∨ i = .reservedOpF 0x00#8 0#16 ∨ i = .reservedRsv 0#4 0#4 0x00#8 0#16 := by decide
theorem witness_sticky_kept :
    busy.flag .illegal = true ∧ decode (.word 0x0000000A#32) = .poll 0x00#8 0#16 ∧
      ∃ t, exec (decode (.word 0x0000000A#32)) busy = .next t := ⟨by decide, by decide, _, rfl⟩
theorem witness_sticky_set :
    (start params []).flag .illegal = false ∧
      seen (fun t => t.flag .illegal) (exec (decode (.word 0x00000C0B#32)) (start params [])) = some true := by decide
theorem witness_sticky_cleared : decode (.word 0x0000000D#32) = .clearStatus 0x00#8 0#16 ∧ busy.flag .malformed = true := by
  decide
theorem witness_push_in :
    (start { params with inCap := 3#16 } [1#8, 2#8]).inBuf.length < (3#16 : Half).toNat ∧
      (3#16 : Half).toNat ≤ (start { params with inCap := 3#16 } [1#8, 2#8, 3#8]).inBuf.length := by decide
theorem witness_pop_out : busy.outBuf = 0x41#8 :: [] ∧ (start params []).outBuf = [] := by decide
theorem witness_locate_found : locate [0xC0#8, 0xC0#8, 0x09#8, 0xC0#8] = .ok (some 3, [0xC0#8, 0x09#8, 0xC0#8]) := by rfl
theorem witness_locate_none :
    locate [] = .ok (none, []) ∧ locate [0xC0#8, 0x09#8] = .ok (none, [0xC0#8, 0x09#8]) ∧
      locate [0xC0#8, 0x09#8, 0x41#8] = .ok (none, [0xC0#8, 0x09#8, 0x41#8]) := ⟨rfl, rfl, rfl⟩
theorem witness_locate_command : busy.inBuf.length ≤ 65535 := by decide
theorem witness_locate_removes :
    FEND ∉ [0x55#8] ∧ ([0x09#8] : List Byte)[0]? ≠ some FEND ∧ (2 = 0 → [0x09#8] = ([] : List Byte)) ∧
      ([] : List Byte)[0]? ≠ some FEND ∧ (0x09#8 : Byte) ≠ FEND ∧ FEND ∉ ([] : List Byte) := by decide
theorem witness_decode_latches :
    let s := start params [0xC0#8, 0x09#8]
    2 ≤ (2#16 : Half).toNat ∧ (2#16 : Half).toNat ≤ s.inBuf.length ∧ s.inBuf[1]? = some 0x09#8 := by decide
theorem witness_decode_bad :
    (1#16 : Half).toNat < 2 ∧ (start params [0xC0#8, 0x09#8, 0xC0#8]).inBuf.length < (4#16 : Half).toNat := by decide
theorem witness_decode_located :
    (start params [0xC0#8, 0x09#8, 0xC0#8]).inBuf.length ≤ 65535 ∧
      seen (fun t => t.flag .locValid) (exec (.locate 0x00#8 0#16) (start params [0xC0#8, 0x09#8, 0xC0#8])) = some true := by
  decide
theorem witness_unescape :
    (0x41#8 : Byte) ≠ kissParams.fesc ∧ kissParams.tfesc ≠ kissParams.tfend ∧ (0x41#8 : Byte) ≠ kissParams.tfend ∧
      (0x41#8 : Byte) ≠ kissParams.tfesc ∧ kissParams.escapeMode = .kiss := by decide
theorem witness_escape :
    kissParams.wf = true ∧ kissParams.escapeMode = .kiss ∧ params.wf = true ∧ params.escapeMode = .none := by decide
theorem witness_no_command : (start params []).flag .decValid = false := by decide
theorem witness_latched : (latched params 0x09#8 []).flag .decValid = true := by decide
theorem witness_latched_fesc :
    let s := latched { kissParams with fesc := 0x07#8 } 0x07#8 []
    s.flag .decValid = true ∧ s.cfg.wf = true ∧ s.cfg.escapeMode = .kiss ∧ s.decCode = s.cfg.fesc := by decide
theorem witness_unrecognized_code : (0x01#8 : Byte) ∉ [0x00#8, 0x07#8, 0x08#8, 0x09#8, 0x0A#8] := by decide
theorem witness_action_code :
    (0x08#8 : Byte) ∈ [0x07#8, 0x08#8, 0x09#8, 0x0A#8] ∧ (0x08#8 : Byte) ∈ [0x08#8, 0x09#8] ∧
      (0x0A#8 : Byte) ∈ [0x07#8, 0x08#8, 0x09#8, 0x0A#8] ∧ (0x0A#8 : Byte) ∉ [0x08#8, 0x09#8] := by decide
theorem witness_status_text :
    (latched params 0x08#8 []).answers = [0x4F#8, 0x4B#8] :: [] ∧ (start params []).answers = [] := by decide
theorem witness_no_request :
    let s : State := { start params [] with host := [.command 0x00000907#32] }
    fetch s = some (.command 0x00000907#32) ∧ decode (.word 0x00000907#32) = .encAck 0x09#8 0#16 ∧
      ∃ t, step s = .next t := ⟨rfl, by decide, _, rfl⟩
theorem witness_enc_res :
    (latched params 0x00#8 [0x41#8]).flag .decValid = true ∧ (resFrame params [0x41#8]).length ≤ 65535 ∧
      (start params []).flag .decValid = false := by decide
theorem witness_frames :
    kissParams.wf = true ∧ ackFrame kissParams 0xC0#8 = [0xC0#8, 0x00#8, 0x41#8, 0x43#8, 0x4B#8, 0xDB#8, 0xDC#8, 0xC0#8] ∧
      params.wf = true ∧ params.escapeMode = .none := by decide
theorem witness_emit :
    (start { params with outCap := 7#16 } []).outBuf.length + (ackFrame params 0x09#8).length ≤ (7#16 : Half).toNat ∧
      (6#16 : Half).toNat < (start { params with outCap := 6#16 } []).outBuf.length + (ackFrame params 0x09#8).length := by
  decide
theorem witness_kiss_round_trip :
    let s := start kissParams [0xC0#8, 0x00#8, 0xDB#8, 0xDC#8, 0xDB#8, 0xDD#8, 0xC0#8]
    s.cfg.wf = true ∧ s.cfg.escapeMode = .kiss ∧ s.inBuf = passFrame s.cfg 0x00#8 [0xC0#8, 0xDB#8] ∧
      s.inBuf.length ≤ 65535 := by decide
theorem witness_unescaped_round_trip :
    let s := start params [0xC0#8, 0x00#8, 0x52#8, 0x45#8, 0x53#8, 0x41#8, 0xC0#8]
    s.cfg.escapeMode = .none ∧ s.inBuf.length ≤ 65535 ∧ locate s.inBuf = .ok (some 7, s.inBuf) ∧ FEND ∉ [0x41#8] ∧
      s.inBuf = resFrame s.cfg [0x41#8] := ⟨rfl, by decide, rfl, by decide, rfl⟩
theorem witness_poll_none :
    (start params [0x41#8]).flag .decValid = false ∧ locate (start params [0x41#8]).inBuf = .ok (none, []) :=
  ⟨by decide, rfl⟩
theorem witness_poll_found :
    let s := start params [0x55#8, 0xC0#8, 0x0A#8, 0xC0#8]
    s.flag .decValid = false ∧ s.inBuf.length ≤ 65535 ∧ locate s.inBuf = .ok (some 3, [0xC0#8, 0x0A#8, 0xC0#8]) :=
  ⟨by decide, by decide, rfl⟩
theorem witness_poll_latch :
    (latched params 0x09#8 []).flag .decValid = true ∧ (start params []).flag .decValid = false ∧
      (start params []).decBody = [] ∧ (start params []).decCode = 0x00#8 := by decide

end Sys2Proof.Tests
end

section
/-! What each update of the state does to the invariants `State.Inv`: one rule per update, used by every command that makes
it. -/

namespace Sys2Proof.Machine

/-! ### The `STATUS` byte -/

/-- Writing a named bit leaves bits 7:6 alone (10_state.md R23). -/
@[simp] theorem withStatusBit_reserved (st : Byte) (f : StatusBit) (v : Bool) :
    (withStatusBit st f v).extractLsb' 6 2 = st.extractLsb' 6 2 := by
  cases v with
  | true =>
    have hmask : (1#8 <<< f.index).extractLsb' 6 2 = 0#2 := by cases f <;> rfl
    rw [withStatusBit, if_pos rfl, BitVec.extractLsb'_or, hmask, BitVec.or_zero]
  | false =>
    have hmask : (~~~(1#8 <<< f.index)).extractLsb' 6 2 = BitVec.allOnes 2 := by cases f <;> rfl
    rw [withStatusBit, if_neg Bool.false_ne_true, BitVec.extractLsb'_and, hmask, BitVec.and_allOnes]

/-- `LOC_VALID` and `DEC_VALID` are written independently of each other. -/
theorem withStatusBit_locValid_decValid (st : Byte) (v w : Bool) :
    withStatusBit (withStatusBit st .decValid v) .locValid w =
      withStatusBit (withStatusBit st .locValid w) .decValid v := by
  ext i hi
  cases v <;> cases w <;> interval_cases i <;> simp [withStatusBit, StatusBit.index]

/-- The locator's record and the latch are cleared and filled in either order. -/
theorem State.clearLocated_fillLatch (s : State) (c : Byte) (body : List Byte) :
    (s.fillLatch c body).clearLocated = s.clearLocated.fillLatch c body := by
  simp only [State.clearLocated, State.fillLatch, withStatusBit_locValid_decValid]

/-! ### The memories -/

theorem memory_wf_iff (s : State) :
    Memory.wf s = true ↔ s.inBuf.length ≤ s.cfg.inCap.toNat ∧ s.outBuf.length ≤ s.cfg.outCap.toNat := by
  simp [Memory.wf]

namespace State.Inv

variable {s : State}

theorem inBuf_le (h : s.Inv) : s.inBuf.length ≤ s.cfg.inCap.toNat := ((memory_wf_iff s).1 h.memory).1

theorem outBuf_le (h : s.Inv) : s.outBuf.length ≤ s.cfg.outCap.toNat := ((memory_wf_iff s).1 h.memory).2

/-! ### Updates outside the memories -/

theorem respond (h : s.Inv) (c : ResultCode) (d : Half) : (s.respond c d).Inv := { h with }

theorem finish (h : s.Inv) (c : ResultCode) (d : Half) : (s.finish c d).Inv :=
  { h with resultLegal := by cases c <;> simp [ResultCode.bits] }

theorem setDispKind (h : s.Inv) (k : DispKind) : (s.setDispKind k).Inv :=
  { h with dispKindLegal := by cases k <;> simp [DispKind.bits] }

theorem logEvent (h : s.Inv) (e : Event) : (s.logEvent e).Inv := { h with }

theorem advance (h : s.Inv) : s.advance.Inv := { h with }

theorem setDraws (h : s.Inv) (k : Nat) : ({ s with draws := k } : State).Inv := { h with }

theorem afterText (h : s.Inv) : s.afterText.Inv := by
  unfold State.afterText
  split
  · exact { h with }
  · exact h.setDraws _

/-- A sticky bit of `STATUS` stands in no other invariant. -/
theorem setSticky (h : s.Inv) {f : StatusBit} (hf : f ∈ stickyBits) (v : Bool) : (s.setFlag f v).Inv := by
  have hloc : StatusBit.locValid ≠ f := by rintro rfl; exact absurd hf (by decide)
  have hdec : StatusBit.decValid ≠ f := by rintro rfl; exact absurd hf (by decide)
  exact { h with
    statusReserved := by simpa using h.statusReserved
    notLocated := by simpa [hloc] using h.notLocated
    located := by simpa [hloc] using h.located
    notLatched := by simpa [hdec] using h.notLatched }

theorem refuseIllegal (h : s.Inv) : s.refuseIllegal.Inv := (h.setSticky (by decide) true).finish _ _

theorem discardLatch (h : s.Inv) : s.discardLatch.Inv :=
  { h with
    statusReserved := by simpa using h.statusReserved
    notLocated := by simpa [State.flag] using h.notLocated
    located := by simpa [State.flag] using h.located
    notLatched := by simp
    bodyFits := by simp }

theorem fillLatch (h : s.Inv) (c : Byte) {body : List Byte} (hb : body.length ≤ s.cfg.inCap.toNat - 3) :
    (s.fillLatch c body).Inv :=
  { h with
    statusReserved := by simpa using h.statusReserved
    notLocated := by simpa [State.flag] using h.notLocated
    located := by simpa [State.flag] using h.located
    notLatched := by simp [State.flag]
    bodyFits := by simpa using hb }

/-! ### Updates of the memories -/

/-- A longer `IN` still holds the located frame at its front. -/
theorem pushIn (h : s.Inv) (b : Byte) (hroom : s.inBuf.length < s.cfg.inCap.toNat) :
    ({ s with inBuf := s.inBuf ++ [b] } : State).Inv :=
  { h with
    memory := (memory_wf_iff _).2 ⟨by simpa using hroom, h.outBuf_le⟩
    located := fun hv => by
      obtain ⟨h3, hle, hfront, hend⟩ := h.located hv
      have hkeep : ∀ i < s.inBuf.length, (s.inBuf ++ [b])[i]? = s.inBuf[i]? := fun _ hi => List.getElem?_append_left hi
      have hlast : s.locLen.toNat - 1 < s.inBuf.length := by omega
      exact ⟨h3, by simp; omega, (hkeep 0 (by omega)).trans hfront, (hkeep _ hlast).trans hend⟩ }

theorem setOutBuf (h : s.Inv) {q : List Byte} (hq : q.length ≤ s.cfg.outCap.toNat) :
    ({ s with outBuf := q } : State).Inv :=
  { h with memory := (memory_wf_iff _).2 ⟨h.inBuf_le, hq⟩ }

/-- Bytes may leave `IN` once the locator's record is cleared. -/
theorem cutIn (h : s.Inv) {q : List Byte} (hq : q.length ≤ s.inBuf.length) :
    ({ s with inBuf := q } : State).clearLocated.Inv :=
  { h with
    memory := (memory_wf_iff _).2 ⟨hq.trans h.inBuf_le, h.outBuf_le⟩
    statusReserved := by simpa using h.statusReserved
    notLocated := by simp
    located := by simp [State.flag]
    notLatched := by simpa [State.flag] using h.notLatched }

theorem afterFrame (h : s.Inv) (f : List Byte) : (s.afterFrame f).Inv := by
  unfold State.afterFrame
  split
  · rename_i hfit
    exact (h.setOutBuf (q := s.outBuf ++ f) (by simpa [State.fits] using hfit)).logEvent (.frame f)
  · exact (h.setSticky (f := .outOvf) (by decide) true).logEvent (.dropped f)

/-! ### Power-on and reset -/

/-- R203, for every parameter value of R9. -/
theorem powerOn {p : Params} (hp : p.wf = true) : (State.powerOn p).Inv where
  params := hp
  memory := memory_wf_powerOn p
  statusReserved := by simp [State.powerOn]
  resultLegal := by simp [State.powerOn]
  dispKindLegal := by simp [State.powerOn]
  notLocated _ := rfl
  located hv := by simp [State.powerOn, State.flag, statusBit] at hv
  notLatched _ := ⟨rfl, rfl⟩
  bodyFits := by simp [State.powerOn]
  noFault := rfl

/-- A reset leaves the fields the invariants speak of as power-on does. -/
theorem resetEvent (h : s.Inv) : s.resetEvent.Inv := { powerOn h.params with noFault := h.noFault }

end State.Inv

end Sys2Proof.Machine
end

section
/-! What `located`, the fault-free form of `Locate()`, answers (41_frame_locator.md R101 to R110). -/

namespace Sys2Proof.Machine

theorem collapsed_suffix (q : List Byte) : collapsed q <:+ q := by
  induction q using collapsed.induct with
  | case1 a b c q hab ih => rw [collapsed, if_pos hab]; exact ih.trans (List.suffix_cons _ _)
  | case2 a b c q hab => rw [collapsed, if_neg hab]
  | case3 q hq => rw [collapsed]; exact hq

/-- Step 3 keeps a `FEND` at the front. -/
theorem collapsed_front {q : List Byte} (h : q[0]? = some FEND) : (collapsed q)[0]? = some FEND := by
  induction q using collapsed.induct with
  | case1 a b c q hab ih => rw [collapsed, if_pos hab]; exact ih (by simp [hab.2])
  | case2 a b c q hab => rw [collapsed, if_neg hab]; exact h
  | case3 q hq => rw [collapsed]; exacts [h, hq]

/-- `Locate()` takes bytes off the front only. -/
theorem located_suffix (q : List Byte) : (located q).2 <:+ q :=
  (collapsed_suffix _).trans (List.dropWhile_suffix _)

/-- What `Locate()` leaves is empty or starts with `FEND`. -/
theorem located_front {q : List Byte} (h : (located q).2 ≠ []) : (located q).2[0]? = some FEND := by
  refine collapsed_front ?_
  have hstop := List.head?_dropWhile_not (· != FEND) q
  cases hg : q.dropWhile (· != FEND) with
  | nil => exact absurd (by simp [located, hg, collapsed]) h
  | cons b g => simpa [hg] using hstop

/-- A frame found lies at the front of what is left, and ends in `FEND`. -/
theorem located_found {q q' : List Byte} {n : Nat} (h : located q = (some n, q')) :
    3 ≤ n ∧ n ≤ q'.length ∧ q'[0]? = some FEND ∧ q'[n - 1]? = some FEND := by
  obtain ⟨hn, hq'⟩ := Prod.mk.inj h
  rw [hq'] at hn
  split at hn
  · cases hn
  · obtain ⟨i, hi, rfl⟩ := Option.map_eq_some_iff.1 hn
    obtain ⟨hlt, hend, -⟩ := List.findIdx?_eq_some_iff_getElem.1 hi
    rw [List.length_drop] at hlt
    have hfront : q'[0]? = some FEND := by
      have hne : (located q).2 ≠ [] := by rw [h]; rintro rfl; simp at hlt
      simpa [h] using located_front hne
    refine ⟨by omega, by omega, hfront, ?_⟩
    rw [List.getElem_drop, beq_iff_eq] at hend
    rw [List.getElem?_eq_some_iff]
    exact ⟨by omega, by simpa [show i + 3 - 1 = 2 + i by omega] using hend⟩

end Sys2Proof.Machine
end

section
/-! What each instruction leaves, as an equation for `exec` without the fault cases of the primitives: none is reached. -/

namespace Sys2Proof.Machine

/-- What dispatching the command `(c, body)` to the entry `e` leaves (43_command_dispatcher.md R133, R145). -/
def State.entryFinished (s : State) (e : Descriptor) (c : Byte) (body : List Byte) (data : Half) : State :=
  (entryRun e c body s).1.finish (entryResult e (entryRun e c body s).2) data

/-- What consuming the latched command leaves (R130, 45_poll_and_control.md R165). -/
def State.latchFinished (s : State) (data : Half) : State :=
  s.discardLatch.entryFinished (lookupCode s.decCode) s.decCode s.decBody data

/-- What a `Decode(n)` that succeeds leaves, where `c` is the byte behind the front (42_frame_decoder.md R124). -/
def State.decoded (s : State) (n : Nat) (c : Byte) : State :=
  (({ s with inBuf := s.inBuf.drop n } : State).fillLatch c
    (decodeBody s.cfg ((s.inBuf.take (n - 1)).drop 2))).clearLocated

theorem dispatchEntry_eq_entryFinished (e : Descriptor) (c : Byte) (body : List Byte) (data : Half) (s : State) :
    dispatchEntry e c body data s = .ok (s.entryFinished e c body data) := dispatchEntry_eq e c body data s

theorem dispatchLatched_eq (data : Half) (s : State) : dispatchLatched data s = .ok (s.latchFinished data) :=
  dispatchEntry_eq _ _ _ _ _

theorem decodeFrame_eq_decoded {n : Nat} {s : State} {c : Byte} (h2 : 2 ≤ n) (hn : n ≤ s.inBuf.length)
    (hc : s.inBuf[1]? = some c) : decodeFrame n s = .ok (s.decoded n c, true) := decodeFrame_of_good h2 hn hc

variable {s : State} {b : Byte} {l : Half}

/-! ### The ring port -/

theorem exec_pushIn_of_room (h : s.inBuf.length < s.cfg.inCap.toNat) :
    exec (.pushIn b l) s = .next (({ s with inBuf := s.inBuf ++ [b] } : State).finish .ok 0#16) := by
  simp only [exec, execPushIn, size, if_pos h, pushBack_of_lt b h, bind, Except.bind, settle_ok]

theorem exec_pushIn_of_full (h : ¬ s.inBuf.length < s.cfg.inCap.toNat) :
    exec (.pushIn b l) s = .next ((s.setFlag .inOvf true).finish .overflow 0#16) := by
  simp only [exec, execPushIn, size, if_neg h, settle_ok]

theorem exec_popOut_of_cons {x : Byte} {rest : List Byte} (h : s.outBuf = x :: rest) :
    exec (.popOut b l) s = .next (({ s with outBuf := rest } : State).finish .ok (zext16 x)) := by
  simp [exec, execPopOut, h, bind, Except.bind]

theorem exec_popOut_of_nil (h : s.outBuf = []) : exec (.popOut b l) s = .next (s.finish .none 0#16) := by
  simp [exec, execPopOut, h]

theorem exec_dropIn : exec (.dropIn b l) s =
    .next (({ s with inBuf := s.inBuf.drop (min l.toNat s.inBuf.length) } : State).clearLocated.finish .ok
      (half (min l.toNat s.inBuf.length))) := by
  simp only [exec, execDropIn, size, popMany_of_le (Nat.min_le_right _ _), bind, Except.bind, settle_ok]

/-! ### The Frame Locator and the Frame Decoder -/

theorem exec_locate_of_found {n : Nat} {q : List Byte} (h : located s.inBuf = (some n, q)) :
    exec (.locate b l) s = .next ((({ s with inBuf := q } : State).setLocated n).finish .ok (half n)) := by
  simp only [exec, execLocate, locate_eq, h, bind, Except.bind, settle_ok]

theorem exec_locate_of_none {q : List Byte} (h : located s.inBuf = (none, q)) :
    exec (.locate b l) s = .next (({ s with inBuf := q } : State).clearLocated.finish .none 0#16) := by
  simp only [exec, execLocate, locate_eq, h, bind, Except.bind, settle_ok]

theorem exec_decode_of_bad (h : l.toNat < 2 ∨ s.inBuf.length < l.toNat) :
    exec (.decode b l) s = .next ((s.setFlag .malformed true).discardLatch.finish .malformed 0#16) := by
  simp [exec, execDecode, decodeFrame_of_bad h, bind, Except.bind]

theorem exec_decode_of_good {c : Byte} (h2 : 2 ≤ l.toNat) (hl : l.toNat ≤ s.inBuf.length)
    (hc : s.inBuf[1]? = some c) :
    exec (.decode b l) s = .next ((s.decoded l.toNat c).finish .ok (s.decoded l.toNat c).decLen) := by
  simp [exec, execDecode, decodeFrame_eq_decoded h2 hl hc, bind, Except.bind]

/-! ### The Command Dispatcher -/

theorem exec_dispatch_of_latched (h : s.flag .decValid = true) :
    exec (.dispatch b l) s = .next (s.latchFinished (zext16 s.decCode)) := by
  simp only [exec, execDispatch, if_pos h, dispatchEntry_eq_entryFinished, settle_ok, State.latchFinished]

theorem exec_dispatch_of_empty (h : s.flag .decValid = false) :
    exec (.dispatch b l) s = .next (s.finish .noCommand 0#16) := by
  simp [exec, execDispatch, h]

theorem exec_codePassThrough (body : List Byte) :
    exec (.codePassThrough body) s = .next (s.entryFinished .passThrough 0x00#8 body (zext16 0x00#8)) := by
  simp only [exec, execCodePassThrough, dispatchEntry_eq_entryFinished, settle_ok]

theorem exec_codeBeacon (body : List Byte) :
    exec (.codeBeacon body) s =
      .next (s.entryFinished (.ackThenAction .beacon .maximum) 0x07#8 body (zext16 0x07#8)) := by
  simp only [exec, execCodeBeacon, dispatchEntry_eq_entryFinished, settle_ok]

theorem exec_codeDeployAntenna (body : List Byte) :
    exec (.codeDeployAntenna body) s =
      .next (s.entryFinished (.ackThenAction .deployAntenna .none) 0x08#8 body (zext16 0x08#8)) := by
  simp only [exec, execCodeDeployAntenna, dispatchEntry_eq_entryFinished, settle_ok]

theorem exec_codeReportStatus (body : List Byte) :
    exec (.codeReportStatus body) s =
      .next (s.entryFinished (.ackThenAction .reportStatus .none) 0x09#8 body (zext16 0x09#8)) := by
  simp only [exec, execCodeReportStatus, dispatchEntry_eq_entryFinished, settle_ok]

theorem exec_codeHaltRadio (body : List Byte) :
    exec (.codeHaltRadio body) s =
      .next (s.entryFinished (.ackThenAction .haltRadio .none) 0x0A#8 body (zext16 0x0A#8)) := by
  simp only [exec, execCodeHaltRadio, dispatchEntry_eq_entryFinished, settle_ok]

theorem exec_codeUnrecognized (code : Byte) (body : List Byte) :
    exec (.codeUnrecognized code body) s = .next (s.entryFinished .unknown code body (zext16 code)) := by
  simp only [exec, execCodeUnrecognized, dispatchEntry_eq_entryFinished, settle_ok]

/-! ### The Frame Encoder -/

theorem exec_encAck : exec (.encAck b l) s =
    .next ((s.afterFrame (ackFrame s.cfg b)).finish (if s.fits (ackFrame s.cfg b) then .ok else .overflow)
      (half (ackFrame s.cfg b).length)) := by
  simp only [exec, execEncAck, emitAndFinish_eq, settle_ok]

theorem exec_encNack : exec (.encNack b l) s =
    .next ((s.afterFrame (nackFrame s.cfg b)).finish (if s.fits (nackFrame s.cfg b) then .ok else .overflow)
      (half (nackFrame s.cfg b).length)) := by
  simp only [exec, execEncNack, emitAndFinish_eq, settle_ok]

theorem exec_encRes_of_empty (h : s.flag .decValid = false) :
    exec (.encRes b l) s = .next (s.finish .noCommand 0#16) := by
  simp [exec, execEncRes, h]

theorem exec_encRes_of_narrow (h : s.flag .decValid = true) (hf : (resFrame s.cfg s.decBody).length < 65536) :
    exec (.encRes b l) s =
      .next ((s.afterFrame (resFrame s.cfg s.decBody)).finish
        (if s.fits (resFrame s.cfg s.decBody) then .ok else .overflow) (half (resFrame s.cfg s.decBody).length)) := by
  simp only [exec, execEncRes, if_pos h, if_pos hf, emitAndFinish_eq, settle_ok]

/-- A frame longer than 16 bits can count also draws the free value that `DATA` takes (notes/assumptions/4.md). -/
theorem exec_encRes_of_wide (h : s.flag .decValid = true) (hf : ¬ (resFrame s.cfg s.decBody).length < 65536) :
    exec (.encRes b l) s =
      .next ((({ s with draws := s.draws + 1 } : State).afterFrame (resFrame s.cfg s.decBody)).finish
        (if s.fits (resFrame s.cfg s.decBody) then .ok else .overflow)
        (Config.wideFrameLength s.draws (resFrame s.cfg s.decBody).length)) := by
  simp only [exec, execEncRes, if_pos h, if_neg hf, emitAndFinish_eq, settle_ok]
  rfl

/-! ### `POLL` and the control commands -/

theorem exec_poll_of_latched (h : s.flag .decValid = true) :
    exec (.poll b l) s = .next (s.latchFinished 0#16) := by
  simp only [exec, execPoll, if_pos h, dispatchLatched_eq, settle_ok]

theorem exec_poll_of_none {q : List Byte} (h : s.flag .decValid = false) (hq : located s.inBuf = (none, q)) :
    exec (.poll b l) s = .next (({ s with inBuf := q } : State).clearLocated.finish .none 0#16) := by
  simp [exec, execPoll, h, locate_eq, hq, bind, Except.bind]

theorem exec_poll_of_found {q : List Byte} {n : Nat} {c : Byte} (h : s.flag .decValid = false)
    (hq : located s.inBuf = (some n, q)) (hc : q[1]? = some c) :
    exec (.poll b l) s = .next ((({ s with inBuf := q } : State).decoded n c).latchFinished (half n)) := by
  obtain ⟨h3, hn, -, -⟩ := located_found hq
  have hdec : decodeFrame n ({ s with inBuf := q } : State) = .ok (({ s with inBuf := q } : State).decoded n c, true) :=
    decodeFrame_eq_decoded (by omega) hn hc
  simp [exec, execPoll, h, locate_eq, hq, bind, Except.bind, hdec, dispatchLatched_eq]

theorem exec_read_of_some {v : Half} (h : readRegister s b = some v) :
    exec (.read b l) s = .next (s.respond .ok v) := by
  simp only [exec, execRead, h]

theorem exec_read_of_none (h : readRegister s b = none) : exec (.read b l) s = .next s.refuseIllegal := by
  simp only [exec, execRead, h]

theorem exec_readBody_of_some {x : Byte} (h : s.decBody[l.toNat]? = some x) :
    exec (.readBody b l) s = .next (s.respond .ok (zext16 x)) := by
  simp only [exec, execReadBody, h]

theorem exec_readBody_of_none (h : s.decBody[l.toNat]? = none) :
    exec (.readBody b l) s = .next s.refuseIllegal := by
  simp only [exec, execReadBody, h]

end Sys2Proof.Machine
end

section
/-! Everything an instruction can do to the state, said once: the completion of `exec` together with the update it makes. -/

namespace Sys2Proof.Machine

/-- `Effect s t`: `t` is what some instruction leaves of `s`. One constructor per kind of update. -/
inductive Effect (s : State) : State → Prop where
  /-- `NOP`, and a `READ` or `READ_BODY` that succeeds. -/
  | respond (c : ResultCode) (d : Half) : Effect s (s.respond c d)
  /-- A command that finds nothing to do. -/
  | finish (c : ResultCode) (d : Half) : Effect s (s.finish c d)
  /-- A refused encoding or operand. -/
  | refuse : Effect s s.refuseIllegal
  /-- `CLEAR_STATUS`. -/
  | clearSticky (d : Half) :
    Effect s (((((s.setFlag .malformed false).setFlag .inOvf false).setFlag .outOvf false).setFlag .illegal false).finish
      .ok d)
  /-- `PUSH_IN` with room. -/
  | pushIn (b : Byte) (d : Half) (hroom : s.inBuf.length < s.cfg.inCap.toNat) :
    Effect s (({ s with inBuf := s.inBuf ++ [b] } : State).finish .ok d)
  /-- `PUSH_IN` without room. -/
  | inOverflow (d : Half) : Effect s ((s.setFlag .inOvf true).finish .overflow d)
  /-- `POP_OUT` of a byte. -/
  | popOut (x : Byte) (rest : List Byte) (d : Half) (hout : s.outBuf = x :: rest) :
    Effect s (({ s with outBuf := rest } : State).finish .ok d)
  /-- `DROP_IN`, and `LOCATE` or `POLL` where no frame is found. -/
  | cutIn (q : List Byte) (c : ResultCode) (d : Half) (hq : q <:+ s.inBuf) :
    Effect s (({ s with inBuf := q } : State).clearLocated.finish c d)
  /-- `LOCATE` of a frame. -/
  | located (n : Nat) (q : List Byte) (d : Half) (hq : located s.inBuf = (some n, q)) :
    Effect s ((({ s with inBuf := q } : State).setLocated n).finish .ok d)
  /-- `DECODE` of a length that fails. -/
  | malformed (d : Half) : Effect s ((s.setFlag .malformed true).discardLatch.finish .malformed d)
  /-- `DECODE` of a frame. -/
  | decoded (n : Nat) (c : Byte) (d : Half) (h2 : 2 ≤ n) (hn : n ≤ s.inBuf.length) (hc : s.inBuf[1]? = some c) :
    Effect s ((s.decoded n c).finish .ok d)
  /-- An encode command's frame, emitted or dropped. -/
  | emitted (k : Nat) (f : List Byte) (c : ResultCode) (d : Half) :
    Effect s ((({ s with draws := k } : State).afterFrame f).finish c d)
  /-- A wire command. -/
  | entry (e : Descriptor) (c : Byte) (body : List Byte) (d : Half) : Effect s (s.entryFinished e c body d)
  /-- `DISPATCH` or `POLL` of the latched command. -/
  | latch (d : Half) (hv : s.flag .decValid = true) : Effect s (s.latchFinished d)
  /-- `POLL` of a frame found in `IN`. -/
  | polled (n : Nat) (q : List Byte) (c : Byte) (d : Half) (hv : s.flag .decValid = false)
    (hq : located s.inBuf = (some n, q)) (hc : q[1]? = some c) :
    Effect s ((({ s with inBuf := q } : State).decoded n c).latchFinished d)

variable (s : State) (b : Byte) (l : Half)

theorem pushIn_effect : ∃ t, exec (.pushIn b l) s = .next t ∧ Effect s t := by
  by_cases h : s.inBuf.length < s.cfg.inCap.toNat
  · exact ⟨_, exec_pushIn_of_room h, .pushIn b _ h⟩
  · exact ⟨_, exec_pushIn_of_full h, .inOverflow _⟩

theorem popOut_effect : ∃ t, exec (.popOut b l) s = .next t ∧ Effect s t := by
  cases h : s.outBuf with
  | nil => exact ⟨_, exec_popOut_of_nil h, .finish _ _⟩
  | cons x rest => exact ⟨_, exec_popOut_of_cons h, .popOut x rest _ h⟩

theorem locate_effect : ∃ t, exec (.locate b l) s = .next t ∧ Effect s t := by
  rcases h : located s.inBuf with ⟨_ | n, q⟩
  · exact ⟨_, exec_locate_of_none h, .cutIn q _ _ (by simpa [h] using located_suffix s.inBuf)⟩
  · exact ⟨_, exec_locate_of_found h, .located n q _ h⟩

theorem decode_effect : ∃ t, exec (.decode b l) s = .next t ∧ Effect s t := by
  by_cases h : l.toNat < 2 ∨ s.inBuf.length < l.toNat
  · exact ⟨_, exec_decode_of_bad h, .malformed _⟩
  · obtain ⟨h2, hl⟩ : 2 ≤ l.toNat ∧ l.toNat ≤ s.inBuf.length := by omega
    have hc : s.inBuf[1]? = some s.inBuf[1] := List.getElem?_eq_getElem _
    exact ⟨_, exec_decode_of_good h2 hl hc, .decoded _ _ _ h2 hl hc⟩

theorem dispatch_effect : ∃ t, exec (.dispatch b l) s = .next t ∧ Effect s t := by
  cases h : s.flag .decValid with
  | false => exact ⟨_, exec_dispatch_of_empty h, .finish _ _⟩
  | true => exact ⟨_, exec_dispatch_of_latched h, .latch _ h⟩

theorem encRes_effect : ∃ t, exec (.encRes b l) s = .next t ∧ Effect s t := by
  cases h : s.flag .decValid with
  | false => exact ⟨_, exec_encRes_of_empty h, .finish _ _⟩
  | true =>
    by_cases hf : (resFrame s.cfg s.decBody).length < 65536
    · exact ⟨_, exec_encRes_of_narrow h hf, .emitted s.draws _ _ _⟩
    · exact ⟨_, exec_encRes_of_wide h hf, .emitted _ _ _ _⟩

theorem poll_effect : ∃ t, exec (.poll b l) s = .next t ∧ Effect s t := by
  cases h : s.flag .decValid with
  | true => exact ⟨_, exec_poll_of_latched h, .latch _ h⟩
  | false =>
    rcases hq : located s.inBuf with ⟨_ | n, q⟩
    · exact ⟨_, exec_poll_of_none h hq, .cutIn q _ _ (by simpa [hq] using located_suffix s.inBuf)⟩
    · obtain ⟨h3, hn, -, -⟩ := located_found hq
      have hc : q[1]? = some q[1] := List.getElem?_eq_getElem _
      exact ⟨_, exec_poll_of_found h hq hc, .polled n q _ _ h hq hc⟩

theorem read_effect : ∃ t, exec (.read b l) s = .next t ∧ Effect s t := by
  cases h : readRegister s b with
  | none => exact ⟨_, exec_read_of_none h, .refuse⟩
  | some v => exact ⟨_, exec_read_of_some h, .respond _ _⟩

theorem readBody_effect : ∃ t, exec (.readBody b l) s = .next t ∧ Effect s t := by
  cases h : s.decBody[l.toNat]? with
  | none => exact ⟨_, exec_readBody_of_none h, .refuse⟩
  | some x => exact ⟨_, exec_readBody_of_some h, .respond _ _⟩

/-- Every instruction completes in every state, and makes one of the listed updates. -/
theorem exec_completes (i : Instr) (s : State) : ∃ t, exec i s = .next t ∧ Effect s t := by
  cases i with
  | nop => exact ⟨_, rfl, .respond _ _⟩
  | pushIn b l => exact pushIn_effect s b l
  | popOut b l => exact popOut_effect s b l
  | dropIn b l => exact ⟨_, exec_dropIn, .cutIn _ _ _ (List.drop_suffix _ _)⟩
  | locate b l => exact locate_effect s b l
  | decode b l => exact decode_effect s b l
  | dispatch b l => exact dispatch_effect s b l
  | encAck b l => exact ⟨_, exec_encAck, .emitted s.draws _ _ _⟩
  | encNack b l => exact ⟨_, exec_encNack, .emitted s.draws _ _ _⟩
  | encRes b l => exact encRes_effect s b l
  | poll b l => exact poll_effect s b l
  | read b l => exact read_effect s b l
  | readBody b l => exact readBody_effect s b l
  | clearStatus => exact ⟨_, rfl, .clearSticky _⟩
  | reservedOpE | reservedOpF | reservedRsv => exact ⟨_, rfl, .refuse⟩
  | codePassThrough body => exact ⟨_, exec_codePassThrough body, .entry _ _ _ _⟩
  | codeBeacon body => exact ⟨_, exec_codeBeacon body, .entry _ _ _ _⟩
  | codeDeployAntenna body => exact ⟨_, exec_codeDeployAntenna body, .entry _ _ _ _⟩
  | codeReportStatus body => exact ⟨_, exec_codeReportStatus body, .entry _ _ _ _⟩
  | codeHaltRadio body => exact ⟨_, exec_codeHaltRadio body, .entry _ _ _ _⟩
  | codeUnrecognized c body => exact ⟨_, exec_codeUnrecognized c body, .entry _ _ _ _⟩

theorem Effect.of_exec {i : Instr} {s t : State} (h : exec i s = .next t) : Effect s t := by
  obtain ⟨u, hu, heff⟩ := exec_completes i s
  cases hu.symm.trans h
  exact heff

end Sys2Proof.Machine
end

section
/-! The parameters are fixed for the life of the block (00_scope.md R10). -/

namespace Sys2Proof.Machine

@[simp] theorem State.afterText_cfg (s : State) : s.afterText.cfg = s.cfg := by
  unfold State.afterText; split <;> rfl

@[simp] theorem request_cfg (a : Action) (body : List Byte) (s : State) : (request a body s).2.cfg = s.cfg := by
  cases a <;> simp [request, capBeacon, capDeploy, capReportStatus, capHalt]

@[simp] theorem afterRequest_cfg (x : Option (List Byte) × State) (d : Bool) : (afterRequest x d).1.cfg = x.2.cfg := by
  rcases x with ⟨_ | text, s⟩ <;> simp [afterRequest]

@[simp] theorem entryRun_cfg (e : Descriptor) (c : Byte) (body : List Byte) (s : State) :
    (entryRun e c body s).1.cfg = s.cfg := by
  cases e <;> simp [entryRun]

@[simp] theorem State.entryFinished_cfg (s : State) (e : Descriptor) (c : Byte) (body : List Byte) (d : Half) :
    (s.entryFinished e c body d).cfg = s.cfg := by
  simp [State.entryFinished]

@[simp] theorem State.latchFinished_cfg (s : State) (d : Half) : (s.latchFinished d).cfg = s.cfg := by
  simp [State.latchFinished]

@[simp] theorem State.decoded_cfg (s : State) (n : Nat) (c : Byte) : (s.decoded n c).cfg = s.cfg := rfl

/-- No instruction changes a parameter. -/
theorem Effect.cfg_eq {s t : State} (h : Effect s t) : t.cfg = s.cfg := by
  cases h <;> simp

/-- Settles O11: a step is idle, a reset or an instruction, and none of them writes `cfg`. -/
theorem parametersNeverChange : Obligations.ParametersNeverChange := by
  intro s t h
  obtain ⟨-, ⟨-, rfl⟩ | ⟨-, rfl⟩ | ⟨w, u, -, hu, rfl⟩⟩ := step_cases h
  · rfl
  · rfl
  · exact (Effect.of_exec hu).cfg_eq

end Sys2Proof.Machine
end

section
/-! The invariants hold at power-on and every step keeps them. -/

namespace Sys2Proof.Machine

theorem half_toNat {n : Nat} (h : n < 65536) : (half n).toNat = n := by
  simp [half, Nat.mod_eq_of_lt h]

/-- The body of an `n`-byte frame is at most `n - 3` bytes, escaped or not (42_frame_decoder.md R127). -/
theorem decodedBody_length_le (p : Params) (q : List Byte) (n : Nat) :
    (decodeBody p ((q.take (n - 1)).drop 2)).length ≤ n - 3 := by
  have hraw : ((q.take (n - 1)).drop 2).length ≤ n - 3 := by simp; omega
  exact (decodeBody_length_le p _).trans hraw

namespace State.Inv

variable {s : State}

/-! ### The Frame Locator and the Frame Decoder -/

theorem setLocated (h : s.Inv) {n : Nat} {q : List Byte} (hq : Machine.located s.inBuf = (some n, q)) :
    (({ s with inBuf := q } : State).setLocated n).Inv := by
  obtain ⟨h3, hn, hfront, hend⟩ := located_found hq
  have hle : q.length ≤ s.inBuf.length := by simpa [hq] using (located_suffix s.inBuf).length_le
  have hnat : (half n).toNat = n := half_toNat (by have := h.inBuf_le; have := s.cfg.inCap.isLt; omega)
  exact { h with
    memory := (memory_wf_iff _).2 ⟨hle.trans h.inBuf_le, h.outBuf_le⟩
    statusReserved := by simpa using h.statusReserved
    notLocated := by simp [State.flag]
    located := fun _ => by simpa [hnat] using ⟨h3, hn, hfront, hend⟩
    notLatched := by simpa [State.flag] using h.notLatched }

/-- `IN` may first be cut to any `q` no longer than it, as `POLL` does. -/
theorem decoded (h : s.Inv) {q : List Byte} (hq : q.length ≤ s.inBuf.length) {n : Nat} (hn : n ≤ q.length) (c : Byte) :
    (({ s with inBuf := q } : State).decoded n c).Inv := by
  have hbody := decodedBody_length_le s.cfg q n
  have hcap := h.inBuf_le
  rw [State.decoded, State.clearLocated_fillLatch]
  exact (h.cutIn (q := q.drop n) (by simp; omega)).fillLatch c (by simp only [State.clearLocated_cfg]; omega)

/-! ### The Command Dispatcher -/

theorem request (h : s.Inv) (a : Action) (body : List Byte) : (Machine.request a body s).2.Inv := by
  cases a with
  | beacon => exact h.logEvent _
  | deployAntenna | reportStatus => exact h.afterText.logEvent _
  | haltRadio => exact h.logEvent _

theorem afterRequest {x : Option (List Byte) × State} (h : x.2.Inv) (d : Bool) : (Machine.afterRequest x d).1.Inv := by
  rcases x with ⟨_ | text, s⟩
  · exact h.setDispKind _
  · exact (h.afterFrame _).setDispKind _

theorem entryRun (h : s.Inv) (e : Descriptor) (c : Byte) (body : List Byte) : (Machine.entryRun e c body s).1.Inv := by
  cases e with
  | passThrough | unknown => exact (h.afterFrame _).setDispKind _
  | ackThenAction a p => exact ((h.afterFrame _).request a body).afterRequest _

theorem entryFinished (h : s.Inv) (e : Descriptor) (c : Byte) (body : List Byte) (d : Half) :
    (s.entryFinished e c body d).Inv := (h.entryRun e c body).finish _ _

theorem latchFinished (h : s.Inv) (d : Half) : (s.latchFinished d).Inv := h.discardLatch.entryFinished _ _ _ _

/-! ### Instructions and steps -/

/-- Every instruction keeps the invariants. -/
theorem effect {t : State} (h : s.Inv) (he : Effect s t) : t.Inv := by
  cases he with
  | respond c d => exact h.respond c d
  | finish c d => exact h.finish c d
  | refuse => exact h.refuseIllegal
  | clearSticky d =>
    have hm := h.setSticky (f := .malformed) (by decide) false
    have hi := hm.setSticky (f := .inOvf) (by decide) false
    have ho := hi.setSticky (f := .outOvf) (by decide) false
    exact (ho.setSticky (f := .illegal) (by decide) false).finish _ d
  | pushIn b d hroom => exact (h.pushIn b hroom).finish _ d
  | inOverflow d => exact (h.setSticky (by decide) true).finish _ d
  | popOut x rest d hout =>
    have hle := h.outBuf_le
    rw [hout, List.length_cons] at hle
    exact (h.setOutBuf (by omega)).finish _ d
  | cutIn q c d hq => exact (h.cutIn hq.length_le).finish c d
  | located n q d hq => exact (h.setLocated hq).finish _ d
  | malformed d => exact (h.setSticky (by decide) true).discardLatch.finish _ d
  | decoded n c d h2 hn hc => exact (h.decoded le_rfl hn c).finish _ d
  | emitted k f c d => exact ((h.setDraws k).afterFrame f).finish c d
  | entry e c body d => exact h.entryFinished e c body d
  | latch d hv => exact h.latchFinished d
  | polled n q c d hv hq hc =>
    obtain ⟨-, hn, -, -⟩ := located_found hq
    have hle : q.length ≤ s.inBuf.length := by simpa [hq] using (located_suffix s.inBuf).length_le
    exact (h.decoded hle hn c).latchFinished d

end State.Inv

/-- Settles O14: a step is idle, a reset or an instruction's effect, and each of these keeps the invariants. -/
theorem everyStepKeepsTheInvariants : Obligations.EveryStepKeepsTheInvariants := by
  intro s t h hstep
  obtain ⟨-, ⟨-, rfl⟩ | ⟨-, rfl⟩ | ⟨w, u, -, hu, rfl⟩⟩ := step_cases hstep
  · exact h
  · exact h.resetEvent.advance
  · exact (h.effect (Effect.of_exec hu)).advance

/-- Settles O15: `State.reset` is the power-on state of the reference parameters, which R9 admits. -/
theorem resetStateMeetsTheInvariants : Obligations.ResetStateMeetsTheInvariants :=
  State.Inv.powerOn (by decide)

end Sys2Proof.Machine
end

section
/-! A step at a host event, and what no instruction touches: the host's list, its index and `FAULT` (10_state.md R21). -/

namespace Sys2Proof.Machine

/-- Settles O5: `step` passes on whatever `exec` answers for the decoded word. -/
theorem stepRunsTheDecodedCommand : Obligations.StepRunsTheDecodedCommand := by
  intro s w hfault hfetch
  simp only [step, hfault, hfetch]
  cases exec (decode (.word w)) s with
  | next t => rfl
  | fault f => rfl
  | refused r => rfl

theorem step_of_command {s u : State} {w : Word} (hfault : s.fault = none) (hfetch : fetch s = some (.command w))
    (hexec : exec (decode (.word w)) s = .next u) : step s = .next u.advance := by
  rw [stepRunsTheDecodedCommand s w hfault hfetch, hexec]
  rfl

theorem step_of_reset {s : State} (hfault : s.fault = none) (hfetch : fetch s = some .reset) :
    step s = .next s.resetEvent.advance := by
  simp only [step, hfault, hfetch]

@[simp] theorem State.afterText_run (s : State) :
    s.afterText.host = s.host ∧ s.afterText.pos = s.pos ∧ s.afterText.fault = s.fault := by
  unfold State.afterText; split <;> exact ⟨rfl, rfl, rfl⟩

@[simp] theorem request_run (a : Action) (body : List Byte) (s : State) :
    (request a body s).2.host = s.host ∧ (request a body s).2.pos = s.pos ∧ (request a body s).2.fault = s.fault := by
  cases a with
  | beacon | haltRadio => exact ⟨rfl, rfl, rfl⟩
  | deployAntenna | reportStatus => exact s.afterText_run

@[simp] theorem afterRequest_run (x : Option (List Byte) × State) (d : Bool) :
    (afterRequest x d).1.host = x.2.host ∧ (afterRequest x d).1.pos = x.2.pos ∧
      (afterRequest x d).1.fault = x.2.fault := by
  rcases x with ⟨_ | text, s⟩ <;> simp [afterRequest]

@[simp] theorem entryRun_run (e : Descriptor) (c : Byte) (body : List Byte) (s : State) :
    (entryRun e c body s).1.host = s.host ∧ (entryRun e c body s).1.pos = s.pos ∧
      (entryRun e c body s).1.fault = s.fault := by
  cases e <;> simp [entryRun]

@[simp] theorem State.entryFinished_run (s : State) (e : Descriptor) (c : Byte) (body : List Byte) (d : Half) :
    (s.entryFinished e c body d).host = s.host ∧ (s.entryFinished e c body d).pos = s.pos ∧
      (s.entryFinished e c body d).fault = s.fault := entryRun_run e c body s

@[simp] theorem State.latchFinished_run (s : State) (d : Half) :
    (s.latchFinished d).host = s.host ∧ (s.latchFinished d).pos = s.pos ∧ (s.latchFinished d).fault = s.fault :=
  s.discardLatch.entryFinished_run _ _ _ d

@[simp] theorem State.decoded_run (s : State) (n : Nat) (c : Byte) :
    (s.decoded n c).host = s.host ∧ (s.decoded n c).pos = s.pos ∧ (s.decoded n c).fault = s.fault := ⟨rfl, rfl, rfl⟩

/-- No instruction moves the index, writes the host's list or records a model fault: the index is the step's to move. -/
theorem Effect.run_eq {s t : State} (h : Effect s t) : t.host = s.host ∧ t.pos = s.pos ∧ t.fault = s.fault := by
  cases h <;> simp

/-- Settles O8: a reset and an instruction both leave the index to `State.advance`, and every instruction completes. -/
theorem stepAdvancesTheIndexByOne : Obligations.StepAdvancesTheIndexByOne := by
  intro s e hfault hfetch
  cases e with
  | reset => exact ⟨_, step_of_reset hfault hfetch, rfl, rfl⟩
  | command w =>
    obtain ⟨u, hexec, heff⟩ := exec_completes (decode (.word w)) s
    obtain ⟨hhost, hpos, -⟩ := heff.run_eq
    exact ⟨_, step_of_command hfault hfetch hexec, congrArg (· + 1) hpos, hhost⟩

end Sys2Proof.Machine
end

section
/-! `EVLOG` is appended to and never cut (10_state.md R33). -/

namespace Sys2Proof.Machine

theorem State.afterFrame_evlog (s : State) (f : List Byte) :
    (s.afterFrame f).evlog = s.evlog ++ [if s.fits f then .frame f else .dropped f] := by
  unfold State.afterFrame; split <;> rfl

@[simp] theorem State.afterText_evlog (s : State) : s.afterText.evlog = s.evlog := by
  unfold State.afterText; split <;> rfl

theorem State.evlog_prefix_afterFrame (s : State) (f : List Byte) : s.evlog <+: (s.afterFrame f).evlog := by
  rw [State.afterFrame_evlog]; exact List.prefix_append _ _

/-- A request on the capability port is one event more. -/
theorem evlog_prefix_request (a : Action) (body : List Byte) (s : State) :
    s.evlog <+: (request a body s).2.evlog := by
  cases a with
  | beacon | haltRadio => exact List.prefix_append _ _
  | deployAntenna | reportStatus => simp [request, capDeploy, capReportStatus]

theorem evlog_prefix_afterRequest (x : Option (List Byte) × State) (d : Bool) :
    x.2.evlog <+: (afterRequest x d).1.evlog := by
  rcases x with ⟨_ | text, s⟩
  · exact List.prefix_rfl
  · exact s.evlog_prefix_afterFrame _

theorem evlog_prefix_entryRun (e : Descriptor) (c : Byte) (body : List Byte) (s : State) :
    s.evlog <+: (entryRun e c body s).1.evlog := by
  cases e with
  | passThrough | unknown => exact s.evlog_prefix_afterFrame _
  | ackThenAction a p =>
    have hack := s.evlog_prefix_afterFrame (ackFrame s.cfg c)
    have hreq := evlog_prefix_request a body (s.afterFrame (ackFrame s.cfg c))
    exact (hack.trans hreq).trans (evlog_prefix_afterRequest _ _)

theorem State.evlog_prefix_entryFinished (s : State) (e : Descriptor) (c : Byte) (body : List Byte) (d : Half) :
    s.evlog <+: (s.entryFinished e c body d).evlog := evlog_prefix_entryRun e c body s

theorem State.evlog_prefix_latchFinished (s : State) (d : Half) : s.evlog <+: (s.latchFinished d).evlog :=
  s.discardLatch.evlog_prefix_entryFinished _ _ _ d

/-- Only an emission or a dispatched command logs anything, and it appends. -/
theorem Effect.evlog_prefix {s t : State} (h : Effect s t) : s.evlog <+: t.evlog := by
  cases h with
  | emitted k f c d => exact State.evlog_prefix_afterFrame { s with draws := k } f
  | entry e c body d => exact s.evlog_prefix_entryFinished e c body d
  | latch d hv => exact s.evlog_prefix_latchFinished d
  | polled n q c d hv hq hc => exact (({ s with inBuf := q } : State).decoded n c).evlog_prefix_latchFinished d
  | respond | finish | refuse | clearSticky | pushIn | inOverflow | popOut | cutIn | located | malformed | decoded =>
    exact List.prefix_rfl

/-- Settles O13: an idle step logs nothing, a reset appends `Reset`, and an instruction appends what it logs. -/
theorem eventLogOnlyGrows : Obligations.EventLogOnlyGrows := by
  intro s t h
  obtain ⟨-, ⟨-, rfl⟩ | ⟨-, rfl⟩ | ⟨w, u, -, hexec, rfl⟩⟩ := step_cases h
  · exact List.prefix_rfl
  · exact List.prefix_append _ _
  · exact (Effect.of_exec hexec).evlog_prefix

end Sys2Proof.Machine
end

section
/-! Who writes the buffers (20_memory.md R51): what each command word leaves of `IN` and of `OUT`. -/

namespace Sys2Proof.Machine

/-! ### What the shared updates leave of the buffers -/

@[simp] theorem State.afterText_buffers (s : State) :
    s.afterText.inBuf = s.inBuf ∧ s.afterText.outBuf = s.outBuf := by
  unfold State.afterText; split <;> exact ⟨rfl, rfl⟩

/-- The capability port reaches neither buffer. -/
@[simp] theorem request_buffers (a : Action) (body : List Byte) (s : State) :
    (request a body s).2.inBuf = s.inBuf ∧ (request a body s).2.outBuf = s.outBuf := by
  cases a with
  | beacon | haltRadio => exact ⟨rfl, rfl⟩
  | deployAntenna | reportStatus => exact s.afterText_buffers

@[simp] theorem afterRequest_inBuf (x : Option (List Byte) × State) (d : Bool) :
    (afterRequest x d).1.inBuf = x.2.inBuf := by
  rcases x with ⟨_ | text, s⟩ <;> simp [afterRequest]

@[simp] theorem entryRun_inBuf (e : Descriptor) (c : Byte) (body : List Byte) (s : State) :
    (entryRun e c body s).1.inBuf = s.inBuf := by
  cases e <;> simp [entryRun]

@[simp] theorem State.latchFinished_inBuf (s : State) (d : Half) : (s.latchFinished d).inBuf = s.inBuf :=
  entryRun_inBuf _ _ _ s.discardLatch

@[simp] theorem State.decoded_inBuf (s : State) (n : Nat) (c : Byte) : (s.decoded n c).inBuf = s.inBuf.drop n := rfl

@[simp] theorem State.decoded_outBuf (s : State) (n : Nat) (c : Byte) : (s.decoded n c).outBuf = s.outBuf := rfl

/-- Found a frame or not, `Locate()` leaves a suffix of the buffer. -/
theorem suffix_of_located {q q' : List Byte} {r : Option Nat} (h : located q = (r, q')) : q' <:+ q := by
  simpa [h] using located_suffix q

/-- An emission adds at the back of `OUT` at most (44_frame_encoder.md R155). -/
theorem State.outBuf_prefix_afterFrame (s : State) (f : List Byte) : s.outBuf <+: (s.afterFrame f).outBuf := by
  unfold State.afterFrame
  split
  · exact List.prefix_append _ _
  · exact List.prefix_rfl

theorem outBuf_prefix_afterRequest (x : Option (List Byte) × State) (d : Bool) :
    x.2.outBuf <+: (afterRequest x d).1.outBuf := by
  rcases x with ⟨_ | text, s⟩
  · exact List.prefix_rfl
  · exact s.outBuf_prefix_afterFrame _

theorem outBuf_prefix_entryRun (e : Descriptor) (c : Byte) (body : List Byte) (s : State) :
    s.outBuf <+: (entryRun e c body s).1.outBuf := by
  cases e with
  | passThrough | unknown => exact s.outBuf_prefix_afterFrame _
  | ackThenAction a p =>
    have hack := s.outBuf_prefix_afterFrame (ackFrame s.cfg c)
    obtain ⟨-, hreq⟩ := request_buffers a body (s.afterFrame (ackFrame s.cfg c))
    rw [← hreq] at hack
    exact hack.trans (outBuf_prefix_afterRequest _ _)

theorem State.outBuf_prefix_latchFinished (s : State) (d : Half) : s.outBuf <+: (s.latchFinished d).outBuf :=
  outBuf_prefix_entryRun _ _ _ s.discardLatch

/-! ### What each command leaves of the buffers -/

section

variable {s t : State} {b : Byte} {l : Half}

theorem pushIn_buffers (h : exec (.pushIn b l) s = .next t) :
    (t.inBuf = s.inBuf ∨ t.inBuf = s.inBuf ++ [b]) ∧ t.outBuf = s.outBuf := by
  by_cases hroom : s.inBuf.length < s.cfg.inCap.toNat
  · cases (exec_pushIn_of_room hroom).symm.trans h
    exact ⟨.inr rfl, rfl⟩
  · cases (exec_pushIn_of_full hroom).symm.trans h
    exact ⟨.inl rfl, rfl⟩

theorem popOut_buffers (h : exec (.popOut b l) s = .next t) : t.inBuf = s.inBuf ∧ t.outBuf <:+ s.outBuf := by
  cases hout : s.outBuf with
  | nil =>
    cases (exec_popOut_of_nil hout).symm.trans h
    exact ⟨rfl, by simp [hout]⟩
  | cons x rest =>
    cases (exec_popOut_of_cons hout).symm.trans h
    exact ⟨rfl, List.suffix_cons x rest⟩

theorem dropIn_buffers (h : exec (.dropIn b l) s = .next t) : t.inBuf <:+ s.inBuf ∧ t.outBuf = s.outBuf := by
  cases exec_dropIn.symm.trans h
  exact ⟨List.drop_suffix _ _, rfl⟩

theorem locate_buffers (h : exec (.locate b l) s = .next t) : t.inBuf <:+ s.inBuf ∧ t.outBuf = s.outBuf := by
  rcases hq : located s.inBuf with ⟨_ | n, q⟩
  · cases (exec_locate_of_none hq).symm.trans h
    exact ⟨suffix_of_located hq, rfl⟩
  · cases (exec_locate_of_found hq).symm.trans h
    exact ⟨suffix_of_located hq, rfl⟩

theorem decode_buffers (h : exec (.decode b l) s = .next t) : t.inBuf <:+ s.inBuf ∧ t.outBuf = s.outBuf := by
  by_cases hbad : l.toNat < 2 ∨ s.inBuf.length < l.toNat
  · cases (exec_decode_of_bad hbad).symm.trans h
    exact ⟨List.suffix_rfl, rfl⟩
  · obtain ⟨h2, hl⟩ : 2 ≤ l.toNat ∧ l.toNat ≤ s.inBuf.length := by omega
    have hc : s.inBuf[1]? = some s.inBuf[1] := List.getElem?_eq_getElem _
    cases (exec_decode_of_good h2 hl hc).symm.trans h
    exact ⟨List.drop_suffix _ _, rfl⟩

theorem dispatch_buffers (h : exec (.dispatch b l) s = .next t) : t.inBuf = s.inBuf ∧ s.outBuf <+: t.outBuf := by
  cases hv : s.flag .decValid with
  | false =>
    cases (exec_dispatch_of_empty hv).symm.trans h
    exact ⟨rfl, List.prefix_rfl⟩
  | true =>
    cases (exec_dispatch_of_latched hv).symm.trans h
    exact ⟨s.latchFinished_inBuf _, s.outBuf_prefix_latchFinished _⟩

theorem encAck_buffers (h : exec (.encAck b l) s = .next t) : t.inBuf = s.inBuf ∧ s.outBuf <+: t.outBuf := by
  cases exec_encAck.symm.trans h
  exact ⟨s.afterFrame_inBuf _, s.outBuf_prefix_afterFrame _⟩

theorem encNack_buffers (h : exec (.encNack b l) s = .next t) : t.inBuf = s.inBuf ∧ s.outBuf <+: t.outBuf := by
  cases exec_encNack.symm.trans h
  exact ⟨s.afterFrame_inBuf _, s.outBuf_prefix_afterFrame _⟩

theorem encRes_buffers (h : exec (.encRes b l) s = .next t) : t.inBuf = s.inBuf ∧ s.outBuf <+: t.outBuf := by
  cases hv : s.flag .decValid with
  | false =>
    cases (exec_encRes_of_empty hv).symm.trans h
    exact ⟨rfl, List.prefix_rfl⟩
  | true =>
    by_cases hf : (resFrame s.cfg s.decBody).length < 65536
    · cases (exec_encRes_of_narrow hv hf).symm.trans h
      exact ⟨s.afterFrame_inBuf _, s.outBuf_prefix_afterFrame _⟩
    · cases (exec_encRes_of_wide hv hf).symm.trans h
      exact ⟨State.afterFrame_inBuf _ _, State.outBuf_prefix_afterFrame { s with draws := s.draws + 1 } _⟩

/-- `POLL` alone works at both ends: it takes a frame off `IN` and may add frames to `OUT`. -/
theorem poll_buffers (h : exec (.poll b l) s = .next t) : t.inBuf <:+ s.inBuf ∧ s.outBuf <+: t.outBuf := by
  cases hv : s.flag .decValid with
  | true =>
    cases (exec_poll_of_latched hv).symm.trans h
    exact ⟨by simp, s.outBuf_prefix_latchFinished _⟩
  | false =>
    rcases hq : located s.inBuf with ⟨_ | n, q⟩
    · cases (exec_poll_of_none hv hq).symm.trans h
      exact ⟨suffix_of_located hq, List.prefix_rfl⟩
    · obtain ⟨h3, hn, -, -⟩ := located_found hq
      have hc : q[1]? = some q[1] := List.getElem?_eq_getElem _
      cases (exec_poll_of_found hv hq hc).symm.trans h
      exact ⟨by simpa using (List.drop_suffix n q).trans (suffix_of_located hq),
        (({ s with inBuf := q } : State).decoded n _).outBuf_prefix_latchFinished _⟩

theorem read_buffers (h : exec (.read b l) s = .next t) : t.inBuf = s.inBuf ∧ t.outBuf = s.outBuf := by
  cases hr : readRegister s b with
  | none => cases (exec_read_of_none hr).symm.trans h; exact ⟨rfl, rfl⟩
  | some v => cases (exec_read_of_some hr).symm.trans h; exact ⟨rfl, rfl⟩

theorem readBody_buffers (h : exec (.readBody b l) s = .next t) : t.inBuf = s.inBuf ∧ t.outBuf = s.outBuf := by
  cases hx : s.decBody[l.toNat]? with
  | none => cases (exec_readBody_of_none hx).symm.trans h; exact ⟨rfl, rfl⟩
  | some x => cases (exec_readBody_of_some hx).symm.trans h; exact ⟨rfl, rfl⟩

end

/-- A command word never decodes to a wire command: what it decodes to is encoded as a word again (30_encoding.md R71). -/
theorem encode_decode_word_isWord (w : Word) : ∃ v, encode (decode (.word w)) = .word v := by
  simp only [decode, decodeWord]
  split
  · simp only [decodeOp]
    split <;> exact ⟨_, rfl⟩
  · exact ⟨_, rfl⟩

/-- Settles O12: command by command. The wire commands, which write `OUT` too, are no command word's meaning. -/
theorem buffersHaveFixedProducersAndConsumers : Obligations.BuffersHaveFixedProducersAndConsumers := by
  intro w s t h
  obtain ⟨v, hword⟩ := encode_decode_word_isWord w
  generalize decode (.word w) = i at h hword ⊢
  cases i with
  | pushIn b l => exact pushIn_buffers h
  | popOut b l => exact popOut_buffers h
  | dropIn b l => exact dropIn_buffers h
  | locate b l => exact locate_buffers h
  | decode b l => exact decode_buffers h
  | dispatch b l => exact dispatch_buffers h
  | encAck b l => exact encAck_buffers h
  | encNack b l => exact encNack_buffers h
  | encRes b l => exact encRes_buffers h
  | poll b l => exact poll_buffers h
  | read b l => exact read_buffers h
  | readBody b l => exact readBody_buffers h
  | nop | clearStatus | reservedOpE | reservedOpF | reservedRsv => cases h; exact ⟨rfl, rfl⟩
  | codePassThrough | codeBeacon | codeDeployAntenna | codeReportStatus | codeHaltRadio | codeUnrecognized => cases hword

end Sys2Proof.Machine
end

section
/-! The fields of a command word (30_encoding.md R65): each field by its place in the word's value, and packing and
reading the fields as inverses of each other. -/

namespace Sys2Proof

/-! ### The fields by their places -/

theorem opField_toNat (w : Word) : (opField w).toNat = w.toNat % 2 ^ 4 := by
  simp [opField]

theorem rsvField_toNat (w : Word) : (rsvField w).toNat = w.toNat / 2 ^ 4 % 2 ^ 4 := by
  simp [rsvField, Nat.shiftRight_eq_div_pow]

theorem bField_toNat (w : Word) : (bField w).toNat = w.toNat / 2 ^ 8 % 2 ^ 8 := by
  simp [bField, Nat.shiftRight_eq_div_pow]

theorem lField_toNat (w : Word) : (lField w).toNat = w.toNat / 2 ^ 16 % 2 ^ 16 := by
  simp [lField, Nat.shiftRight_eq_div_pow]

/-! ### Packing and reading -/

/-- The fields do not overlap: their weighted sum fits in the word. -/
theorem packWord_toNat (op rsv : Nibble) (b : Byte) (l : Half) :
    (packWord op rsv b l).toNat = l.toNat * 2 ^ 16 + b.toNat * 2 ^ 8 + rsv.toNat * 2 ^ 4 + op.toNat :=
  Nat.mod_eq_of_lt (by omega)

@[simp] theorem opField_packWord (op rsv : Nibble) (b : Byte) (l : Half) : opField (packWord op rsv b l) = op :=
  BitVec.eq_of_toNat_eq (by rw [opField_toNat, packWord_toNat]; omega)

@[simp] theorem rsvField_packWord (op rsv : Nibble) (b : Byte) (l : Half) : rsvField (packWord op rsv b l) = rsv :=
  BitVec.eq_of_toNat_eq (by rw [rsvField_toNat, packWord_toNat]; omega)

@[simp] theorem bField_packWord (op rsv : Nibble) (b : Byte) (l : Half) : bField (packWord op rsv b l) = b :=
  BitVec.eq_of_toNat_eq (by rw [bField_toNat, packWord_toNat]; omega)

@[simp] theorem lField_packWord (op rsv : Nibble) (b : Byte) (l : Half) : lField (packWord op rsv b l) = l :=
  BitVec.eq_of_toNat_eq (by rw [lField_toNat, packWord_toNat]; omega)

/-- The four fields cover the word. -/
theorem packWord_fields (w : Word) : packWord (opField w) (rsvField w) (bField w) (lField w) = w := by
  apply BitVec.eq_of_toNat_eq
  rw [packWord_toNat, opField_toNat, rsvField_toNat, bField_toNat, lField_toNat]
  omega

end Sys2Proof
end

section
/-! Decoding and encoding undo each other (30_encoding.md R65 to R71, R76, R77). -/

namespace Sys2Proof

/-! ### The decoder, step by step (R71) -/

theorem decode_word_of_rsv_ne {w : Word} (h : rsvField w ≠ 0#4) :
    decode (.word w) = .reservedRsv (opField w) (rsvField w) (bField w) (lField w) := if_neg h

theorem decode_word_of_rsv_eq {w : Word} (h : rsvField w = 0#4) :
    decode (.word w) = decodeOp (opField w) (bField w) (lField w) := if_pos h

theorem decode_packWord_of_rsv_ne {rsv : Nibble} (h : rsv ≠ 0#4) (op : Nibble) (b : Byte) (l : Half) :
    decode (.word (packWord op rsv b l)) = .reservedRsv op rsv b l := by
  rw [decode_word_of_rsv_ne (by simpa using h)]
  simp

theorem decode_packWord_zero (op : Nibble) (b : Byte) (l : Half) :
    decode (.word (packWord op 0#4 b l)) = decodeOp op b l := by
  rw [decode_word_of_rsv_eq (by simp)]
  simp

theorem mem_recognizedCodes_iff (code : Byte) :
    code ∈ recognizedCodes ↔ code.toNat ∈ [0x00, 0x07, 0x08, 0x09, 0x0A] := by
  simp [recognizedCodes, ← BitVec.toNat_inj]

theorem decode_wire_of_unrecognized {code : Byte} (h : code ∉ recognizedCodes) (body : List Byte) :
    decode (.wire code body) = .codeUnrecognized code body := by
  rw [mem_recognizedCodes_iff] at h
  simp only [decode, decodeCommand]
  split
  case h_6 => rfl
  all_goals
    rename_i hcode
    exact absurd (by rw [hcode]; decide) h

/-- Settles O1: row by row. A command row has `RSV = 0`, so decoding looks its `OP` up; the two rows that carry what they
were refused for are decoded to themselves because they are well formed. -/
theorem decodeOfEncodeIsTheInstruction : Obligations.DecodeOfEncodeIsTheInstruction := by
  intro i hwf
  cases i with
  | nop | pushIn | popOut | dropIn | locate | decode | dispatch | encAck | encNack | encRes | poll | read | readBody
  | clearStatus | reservedOpE | reservedOpF => exact decode_packWord_zero _ _ _
  | reservedRsv op rsv b l => exact decode_packWord_of_rsv_ne (by simpa [Instr.wf] using hwf) op b l
  | codePassThrough | codeBeacon | codeDeployAntenna | codeReportStatus | codeHaltRadio => rfl
  | codeUnrecognized code body => exact decode_wire_of_unrecognized (by simpa [Instr.wf] using hwf) body

/-- Every `OP` names a row that encodes to a word with that `OP`. -/
theorem encode_decodeOp (op : Nibble) (b : Byte) (l : Half) :
    encode (decodeOp op b l) = .word (packWord op 0#4 b l) := by
  obtain ⟨n⟩ := op
  fin_cases n <;> rfl

theorem encode_decode_word (w : Word) : encode (decode (.word w)) = .word w := by
  by_cases h : rsvField w = 0#4
  · rw [decode_word_of_rsv_eq h, encode_decodeOp, ← h, packWord_fields]
  · rw [decode_word_of_rsv_ne h, encode, packWord_fields]

theorem encode_decode_wire (code : Byte) (body : List Byte) :
    encode (decode (.wire code body)) = .wire code body := by
  by_cases h : code ∈ recognizedCodes
  · simp only [recognizedCodes, List.mem_cons, List.not_mem_nil, or_false] at h
    obtain rfl | rfl | rfl | rfl | rfl := h <;> rfl
  · rw [decode_wire_of_unrecognized h, encode]

/-- The decoder answers well-formed instructions only: the laws of `DecodedIsWellFormed`, of every row. -/
theorem decode_wf (e : Encoded) : (decode e).wf = true := by
  cases h : decode e with
  | reservedRsv op rsv b l => exact Laws.DecodedIsWellFormed.reservedRsv op rsv b l e h
  | codeUnrecognized code body => exact Laws.DecodedIsWellFormed.codeUnrecognized code body e h
  | _ => rfl

/-- Settles O2: the fields of a word and the code of a wire command are all that decoding looks at, and encoding puts
each back in its place. -/
theorem encodeOfDecodeIsTheEncoding : Obligations.EncodeOfDecodeIsTheEncoding := by
  intro e
  refine ⟨decode_wf e, ?_⟩
  cases e with
  | word w => exact encode_decode_word w
  | wire code body => exact encode_decode_wire code body

/-- Settles O4: each word and wire command is the encoding of its instruction, so decoding gives it back. -/
theorem sampleWordsDecode : Obligations.SampleWordsDecode :=
  ⟨decodeOfEncodeIsTheInstruction (.pushIn 0xC0#8 0#16) rfl,
    decodeOfEncodeIsTheInstruction (.decode 0x00#8 5#16) rfl,
    decodeOfEncodeIsTheInstruction (.encNack 0xFF#8 0#16) rfl,
    decodeOfEncodeIsTheInstruction (.readBody 0x00#8 4#16) rfl,
    decodeOfEncodeIsTheInstruction (.reservedRsv 0x0#4 0xF#4 0x00#8 0#16) rfl,
    decodeOfEncodeIsTheInstruction (.codeBeacon [0x41#8]) rfl,
    decodeOfEncodeIsTheInstruction (.codeUnrecognized 0xC0#8 []) rfl⟩

end Sys2Proof
end

section
/-! The three steps of decoding a word, with the fields as arithmetic of the word's value (30_encoding.md R71). -/

namespace Sys2Proof

open Machine

/-- The rows of rules R68 and R69 in the order of their `OP`. -/
theorem decodeOp_getElem? (op : Nibble) (b : Byte) (l : Half) :
    [Instr.nop b l, .pushIn b l, .popOut b l, .dropIn b l, .locate b l, .decode b l, .dispatch b l, .encAck b l,
      .encNack b l, .encRes b l, .poll b l, .read b l, .readBody b l, .clearStatus b l, .reservedOpE b l,
      .reservedOpF b l][op.toNat]? = some (decodeOp op b l) := by
  obtain ⟨n⟩ := op
  fin_cases n <;> rfl

theorem opField_eq_ofNat (w : Word) : opField w = BitVec.ofNat 4 (w.toNat % 2 ^ 4) := by
  rw [← opField_toNat, BitVec.ofNat_toNat, BitVec.setWidth_eq]

theorem rsvField_eq_ofNat (w : Word) : rsvField w = BitVec.ofNat 4 (w.toNat / 2 ^ 4 % 2 ^ 4) := by
  rw [← rsvField_toNat, BitVec.ofNat_toNat, BitVec.setWidth_eq]

theorem bField_eq_ofNat (w : Word) : bField w = BitVec.ofNat 8 (w.toNat / 2 ^ 8) :=
  BitVec.eq_of_toNat_eq (by rw [bField_toNat, BitVec.toNat_ofNat])

theorem lField_eq_ofNat (w : Word) : lField w = BitVec.ofNat 16 (w.toNat / 2 ^ 16) :=
  BitVec.eq_of_toNat_eq (by rw [lField_toNat, BitVec.toNat_ofNat])

theorem rsvField_eq_zero_iff (w : Word) : rsvField w = 0#4 ↔ w.toNat / 2 ^ 4 % 2 ^ 4 = 0 := by
  rw [← rsvField_toNat, ← BitVec.toNat_inj, BitVec.toNat_ofNat, Nat.zero_mod]

/-- The instructions no command of R68 names: a reserved `OP` (R69) or a reserved `RSV` (R70). -/
def Instr.IsReserved (i : Instr) : Prop :=
  (∃ b l, i = .reservedOpE b l) ∨ (∃ b l, i = .reservedOpF b l) ∨ ∃ op rsv b l, i = .reservedRsv op rsv b l

theorem exec_of_isReserved {i : Instr} (h : i.IsReserved) (s : State) : exec i s = .next s.refuseIllegal := by
  obtain ⟨b, l, rfl⟩ | ⟨b, l, rfl⟩ | ⟨op, rsv, b, l, rfl⟩ := h <;> rfl

theorem decodeOp_isReserved {op : Nibble} (h : op = 0xE#4 ∨ op = 0xF#4) (b : Byte) (l : Half) :
    (decodeOp op b l).IsReserved := by
  obtain rfl | rfl := h
  · exact .inl ⟨b, l, rfl⟩
  · exact .inr (.inl ⟨b, l, rfl⟩)

/-- The words of rules R69 and R70 decode to a reserved row. -/
theorem decode_word_isReserved {w : Word} (h : rsvField w ≠ 0#4 ∨ opField w = 0xE#4 ∨ opField w = 0xF#4) :
    (decode (.word w)).IsReserved := by
  by_cases hrsv : rsvField w = 0#4
  · rw [decode_word_of_rsv_eq hrsv]
    exact decodeOp_isReserved (h.resolve_left (not_not_intro hrsv)) _ _
  · exact .inr (.inr ⟨_, _, _, _, decode_word_of_rsv_ne hrsv⟩)

/-- Settles O3: the fields of R65 are the arithmetic ones, `decodeWord` takes the steps of R71 in their order, and the
reserved rows are refused. -/
theorem everyWordDecodesInThreeSteps : Obligations.EveryWordDecodesInThreeSteps := by
  intro w op rsv b l
  have hop : opField w = BitVec.ofNat 4 op := opField_eq_ofNat w
  have hrsv : rsvField w = BitVec.ofNat 4 rsv := rsvField_eq_ofNat w
  have hb : bField w = b := bField_eq_ofNat w
  have hl : lField w = l := lField_eq_ofNat w
  have hzero : rsvField w = 0#4 ↔ rsv = 0 := rsvField_eq_zero_iff w
  refine ⟨fun h => ?_, fun h => ?_, fun h s => ?_⟩
  · rw [decode_word_of_rsv_ne (mt hzero.1 h), hop, hrsv, hb, hl]
  · rw [decode_word_of_rsv_eq (hzero.2 h), hb, hl, ← decodeOp_getElem?, opField_toNat]
  · refine exec_of_isReserved (decode_word_isReserved ?_) s
    rw [hop]
    exact h.imp (mt hzero.1) (Or.imp (congrArg _) (congrArg _))

end Sys2Proof
end

section
/-! Every instruction answers the host once (30_encoding.md R67, 60_exceptions.md R180, R181). -/

namespace Sys2Proof.Machine

/-- No result code the block answers is a reserved one (60_exceptions.md R181). -/
theorem ResultCode.bits_toNat_le (c : ResultCode) : c.bits.toNat ≤ 6 := by
  cases c <;> decide

theorem responseWord_eq_answer (c : ResultCode) (d : Half) : responseWord c d = answer d c.bits := rfl

/-! ### What the shared updates leave of the responses -/

@[simp] theorem State.afterText_responses (s : State) : s.afterText.responses = s.responses := by
  unfold State.afterText; split <;> rfl

@[simp] theorem request_responses (a : Action) (body : List Byte) (s : State) :
    (request a body s).2.responses = s.responses := by
  cases a with
  | beacon | haltRadio => rfl
  | deployAntenna | reportStatus => exact s.afterText_responses

@[simp] theorem afterRequest_responses (x : Option (List Byte) × State) (d : Bool) :
    (afterRequest x d).1.responses = x.2.responses := by
  rcases x with ⟨_ | text, s⟩ <;> simp [afterRequest]

/-- The arm of an entry answers nothing itself: the command that runs it does. -/
@[simp] theorem entryRun_responses (e : Descriptor) (c : Byte) (body : List Byte) (s : State) :
    (entryRun e c body s).1.responses = s.responses := by
  cases e <;> simp [entryRun]

theorem State.entryFinished_responses (s : State) (e : Descriptor) (c : Byte) (body : List Byte) (d : Half) :
    (s.entryFinished e c body d).responses =
      s.responses ++ [responseWord (entryResult e (entryRun e c body s).2) d] := by
  simp [State.entryFinished]

/-- The latch and the entry dispatched decide the result code, which is left open here. -/
theorem State.latchFinished_responses (s : State) (d : Half) :
    ∃ r, (s.latchFinished d).responses = s.responses ++ [responseWord r d] :=
  ⟨_, s.discardLatch.entryFinished_responses _ _ _ d⟩

/-- Whatever an instruction does, it appends one response word. -/
theorem Effect.responses {s t : State} (h : Effect s t) :
    ∃ r d, t.responses = s.responses ++ [responseWord r d] := by
  cases h with
  | entry e c body d => exact ⟨_, d, s.entryFinished_responses e c body d⟩
  | latch d hv =>
    obtain ⟨r, hr⟩ := s.latchFinished_responses d
    exact ⟨r, d, hr⟩
  | polled n q c d hv hq hc =>
    obtain ⟨r, hr⟩ := (({ s with inBuf := q } : State).decoded n c).latchFinished_responses d
    exact ⟨r, d, hr⟩
  | emitted k f c d => exact ⟨c, d, by simp⟩
  | respond | finish | refuse | clearSticky | pushIn | inOverflow | popOut | cutIn | located | malformed | decoded =>
    exact ⟨_, _, rfl⟩

/-- Settles O10: every instruction completes with one of the updates of `Effect`, each of which answers once and leaves
`FAULT` alone. -/
theorem everyInstructionReturnsOneResponseWord : Obligations.EveryInstructionReturnsOneResponseWord := by
  intro i s
  obtain ⟨t, hexec, heff⟩ := exec_completes i s
  obtain ⟨r, d, hresp⟩ := heff.responses
  obtain ⟨-, -, hfault⟩ := heff.run_eq
  exact ⟨t, d, r.bits, hexec, hresp, r.bits_toNat_le, hfault⟩

end Sys2Proof.Machine
end

section
/-! The layouts and the lengths of the frames (30_encoding.md R79 to R82, 44_frame_encoder.md R150 to R154). -/

namespace Sys2Proof.Machine

theorem esc_of_none {p : Params} (h : p.escapeMode = .none) (field : List Byte) : esc p field = field := by
  simp only [esc, h]

theorem esc_of_kiss {p : Params} (h : p.escapeMode = .kiss) (field : List Byte) :
    esc p field = field.flatMap (escapeByte p) := by
  simp only [esc, h]

/-- A byte is escaped by one byte more exactly where it is `FEND` or `FESC` (30_encoding.md R83). -/
theorem escapeByte_length (p : Params) (c : Byte) :
    (escapeByte p c).length = 1 + if c = FEND ∨ c = p.fesc then 1 else 0 := by
  by_cases hfend : c = FEND
  · simp [escapeByte, hfend]
  · by_cases hfesc : c = p.fesc
    · rw [escapeByte, if_neg hfend, if_pos hfesc, if_pos (.inr hfesc)]; rfl
    · simp [escapeByte, hfend, hfesc]

theorem esc_singleton_length (p : Params) (c : Byte) :
    (esc p [c]).length = 1 + if p.escapeMode = .kiss ∧ (c = FEND ∨ c = p.fesc) then 1 else 0 := by
  cases h : p.escapeMode with
  | none => simp [esc_of_none h]
  | kiss => simp [esc_of_kiss h, escapeByte_length]

theorem ackFrame_length (p : Params) (c : Byte) : (ackFrame p c).length = (esc p [c]).length + 6 := by
  simp [ackFrame]

theorem nackFrame_length (p : Params) (c : Byte) : (nackFrame p c).length = (esc p [c]).length + 7 := by
  simp [nackFrame]

theorem resFrame_length (p : Params) (body : List Byte) : (resFrame p body).length = (esc p body).length + 6 := by
  simp [resFrame]

theorem passFrame_length (p : Params) (c : Byte) (body : List Byte) :
    (passFrame p c body).length = (esc p body).length + 3 := by
  simp [passFrame]

/-- Settles O52: the bytes are those of the builders, and each length is that of the escaped field and the fixed bytes. -/
theorem framesHaveTheirFixedBytes : Obligations.FramesHaveTheirFixedBytes := by
  intro p c body extra
  have hcode : (esc p [c]).length = 1 + extra := esc_singleton_length p c
  have hack : (ackFrame p c).length = 7 + extra := by rw [ackFrame_length, hcode]; omega
  have hnack : (nackFrame p c).length = 8 + extra := by rw [nackFrame_length, hcode]; omega
  exact ⟨rfl, hack, rfl, hnack, rfl, resFrame_length p body, rfl, passFrame_length p c body,
    fun h => ⟨esc_of_none h body, esc_of_none h [c]⟩⟩

end Sys2Proof.Machine
end

section
/-! The ring port: what `PUSH_IN`, `POP_OUT` and `DROP_IN` do to the buffers and answer (40_ring_buffer.md R90 to R92). -/

namespace Sys2Proof.Machine

/-! ### Reading a buffer with one byte more at the back -/

theorem peek_append_singleton_size (q : List Byte) (b : Byte) : peek (q ++ [b]) (size q) = .ok b :=
  peek_of_getElem? List.getElem?_concat_length

/-- Every other index reads as before: below the old end the old byte, past the new end the same fault. -/
theorem peek_append_singleton_of_ne {q : List Byte} {i : Nat} (h : i ≠ size q) (b : Byte) :
    peek (q ++ [b]) i = peek q i := by
  have hget : (q ++ [b])[i]? = q[i]? := by
    obtain hlt | hgt := Nat.lt_or_gt_of_ne h
    · exact List.getElem?_append_left hlt
    · rw [List.getElem?_eq_none (by simpa using hgt), List.getElem?_eq_none hgt.le]
  simp only [peek, hget]

/-! ### The three commands

Each equation for `exec` says the same update as its statement; the mask on `STATUS`, the value of `RESULT` and the
response word of the statement are what the named updates compute to. -/

/-- Settles O24: with and without room. -/
theorem pushInAppendsOneByteOrOverflows : Obligations.PushInAppendsOneByteOrOverflows := by
  intro b l s
  refine ⟨decodeOfEncodeIsTheInstruction (.pushIn b l) rfl, fun hroom => ⟨?_, ?_, ?_⟩, fun hfull => ?_⟩
  · exact exec_pushIn_of_room hroom
  · exact peek_append_singleton_size s.inBuf b
  · exact fun i hi => peek_append_singleton_of_ne hi b
  · exact exec_pushIn_of_full hfull.not_gt

/-- Settles O25: `OUT` with a front byte, and `OUT` empty. -/
theorem popOutReturnsTheFrontByte : Obligations.PopOutReturnsTheFrontByte := by
  intro b l s
  refine ⟨decodeOfEncodeIsTheInstruction (.popOut b l) rfl, fun x rest hout => ?_, fun hempty => ?_⟩
  · exact exec_popOut_of_cons hout
  · exact exec_popOut_of_nil hempty

/-- Settles O26: the number dropped is cut to `Size(IN)`, which leaves the same buffer as dropping `L` bytes does. -/
theorem dropInDiscardsFromTheFront : Obligations.DropInDiscardsFromTheFront := by
  intro b l s
  refine ⟨decodeOfEncodeIsTheInstruction (.dropIn b l) rfl, ?_⟩
  rw [exec_dropIn, ← List.drop_eq_drop_min]
  rfl

end Sys2Proof.Machine
end

section
/-! The Frame Locator: what `Locate()` removes, what it answers, and what `LOCATE` records of it (41_frame_locator.md R100
to R112). -/

namespace Sys2Proof.Machine

/-! ### What step 2 leaves -/

/-- A buffer that is empty or starts with `FEND` holds no garbage. -/
theorem dropWhile_ne_fend_eq_self {q : List Byte} (h : q ≠ [] → q[0]? = some FEND) : q.dropWhile (· != FEND) = q := by
  cases q with
  | nil => rfl
  | cons b q =>
    have hb : b = FEND := by simpa using h (List.cons_ne_nil b q)
    simp [hb]

/-- The garbage in front of a delimiter, or of nothing, is dropped whole. -/
theorem dropWhile_ne_fend_append {junk q : List Byte} (hjunk : FEND ∉ junk) (h : q ≠ [] → q[0]? = some FEND) :
    (junk ++ q).dropWhile (· != FEND) = q := by
  rw [List.dropWhile_append_of_pos fun b hb => by simpa using ne_of_mem_of_not_mem hb hjunk]
  exact dropWhile_ne_fend_eq_self h

/-! ### What step 3 leaves -/

/-- Below three bytes step 3 ends; the premise is the one of the last equation of `collapsed`. -/
theorem length_lt_three_of_ne_cons {q : List Byte} (h : ∀ a b c r, q = a :: b :: c :: r → False) : q.length < 3 := by
  match q with
  | [] | [_] | [_, _] => simp
  | a :: b :: c :: r => exact (h a b c r rfl).elim

theorem collapsed_cons_of_ne {a b : Byte} (hb : b ≠ FEND) (q : List Byte) : collapsed (a :: b :: q) = a :: b :: q := by
  cases q with
  | nil => rfl
  | cons c q => exact if_neg fun h => hb h.2

/-- Where three bytes or more are left, the two at the front are not both `FEND`. -/
theorem collapsed_not_two_fends {q : List Byte} (h3 : 3 ≤ (collapsed q).length)
    (hfront : (collapsed q)[0]? = some FEND) : (collapsed q)[1]? ≠ some FEND := by
  induction q using collapsed.induct with
  | case1 a b c q hab ih => rw [collapsed, if_pos hab] at *; exact ih h3 hfront
  | case2 a b c q hab => rw [collapsed, if_neg hab] at *; simpa using fun hb => hab ⟨by simpa using hfront, hb⟩
  | case3 q hq => rw [collapsed] at h3; exacts [absurd h3 (length_lt_three_of_ne_cons hq).not_ge, hq]

theorem collapsed_collapsed (q : List Byte) : collapsed (collapsed q) = collapsed q := by
  induction q using collapsed.induct with
  | case1 a b c q hab ih => rw [collapsed, if_pos hab]; exact ih
  | case2 a b c q hab => rw [collapsed, if_neg hab, collapsed, if_neg hab]
  | case3 q hq => rw [collapsed.eq_2 q hq, collapsed.eq_2 q hq]

/-- Of a run of delimiters in front of another byte, one is left. -/
theorem collapsed_fends_append {c : Byte} (hc : c ≠ FEND) (m : Nat) (q : List Byte) :
    collapsed (List.replicate (m + 1) FEND ++ c :: q) = FEND :: c :: q := by
  induction m with
  | zero => exact collapsed_cons_of_ne hc q
  | succ m ih => cases m <;> exact (if_pos ⟨rfl, rfl⟩).trans ih

/-- Of delimiters only, two are left at most (R106). -/
theorem collapsed_fends (m : Nat) : collapsed (List.replicate m FEND) = List.replicate (min m 2) FEND := by
  match m with
  | 0 | 1 | 2 => rfl
  | m + 3 =>
    have hstep : collapsed (List.replicate (m + 3) FEND) = collapsed (List.replicate (m + 2) FEND) := if_pos ⟨rfl, rfl⟩
    rw [hstep, collapsed_fends (m + 2)]
    simp

/-! ### What `Locate()` leaves, and what it scans -/

/-- What `Locate()` answers and leaves, by what steps 2 and 3 leave. -/
theorem located_of_collapsed {q g q' : List Byte} (hg : q.dropWhile (· != FEND) = g) (hq' : collapsed g = q') :
    located q = (if q'.length < 3 then none else ((q'.drop 2).findIdx? (· == FEND)).map (· + 3), q') := by
  rw [located, hg, hq']

theorem located_snd (q : List Byte) : (located q).2 = collapsed (q.dropWhile (· != FEND)) := rfl

/-- The bytes before the first delimiter are dropped, and the delimiters in front of another byte collapse to one. -/
theorem located_snd_of_parts {junk rest : List Byte} {m : Nat} (hjunk : FEND ∉ junk) (hrest : rest[0]? ≠ some FEND)
    (hm : m = 0 → rest = []) : (located (junk ++ List.replicate m FEND ++ rest)).2 =
      List.replicate (if rest = [] then min m 2 else 1) FEND ++ rest := by
  have hfront : List.replicate m FEND ++ rest ≠ [] → (List.replicate m FEND ++ rest)[0]? = some FEND := by
    cases m with
    | zero => simp [hm rfl]
    | succ m => intro _; rfl
  rw [located_snd, List.append_assoc, dropWhile_ne_fend_append hjunk hfront]
  cases rest with
  | nil => simpa using collapsed_fends m
  | cons c rest =>
    have hc : c ≠ FEND := by simpa using hrest
    obtain ⟨k, rfl⟩ := Nat.exists_eq_succ_of_ne_zero fun h => List.cons_ne_nil c rest (hm h)
    exact collapsed_fends_append hc k rest

/-- Step 5 passes over a body with no delimiter to the one that ends it. -/
theorem findIdx?_fend_append {body : List Byte} (hbody : FEND ∉ body) (rest : List Byte) :
    (body ++ FEND :: rest).findIdx? (· == FEND) = some body.length := by
  have hnone : body.findIdx? (· == FEND) = none :=
    List.findIdx?_eq_none_iff.2 fun b hb => by simpa using ne_of_mem_of_not_mem hb hbody
  simp [List.findIdx?_append, List.findIdx?_cons, hnone]

/-- Where the answer is `NONE` and three bytes or more are left, no delimiter ends a frame (R105). -/
theorem located_none {q q' : List Byte} (h : located q = (none, q')) (h3 : 3 ≤ q'.length) {i : Nat} (hi : 2 ≤ i) :
    q'[i]? ≠ some FEND := by
  obtain ⟨hr, hq'⟩ := Prod.mk.inj h
  rw [hq', if_neg (by omega), Option.map_eq_none_iff, List.findIdx?_eq_none_iff] at hr
  intro hget
  have hmem : FEND ∈ q'.drop 2 := List.mem_iff_getElem?.2 ⟨i - 2, by rw [List.getElem?_drop, ← hget]; congr 1; omega⟩
  simpa using hr FEND hmem

/-- The delimiter that ends the frame found is the first one from index 2 on (R105). -/
theorem located_found_first {q q' : List Byte} {n i : Nat} (h : located q = (some n, q')) (hi : 2 ≤ i)
    (hin : i < n - 1) : q'[i]? ≠ some FEND := by
  obtain ⟨hr, hq'⟩ := Prod.mk.inj h
  have h3 : ¬ q'.length < 3 := by have := located_found h; omega
  rw [hq', if_neg h3, Option.map_eq_some_iff] at hr
  obtain ⟨j, hj, rfl⟩ := hr
  obtain ⟨hlt, -, hbefore⟩ := List.findIdx?_eq_some_iff_getElem.1 hj
  have hne := hbefore (i - 2) (by omega)
  simp only [List.getElem_drop, show 2 + (i - 2) = i by omega, beq_iff_eq] at hne
  exact fun hget => hne (List.getElem?_eq_some_iff.1 hget).2

/-- The byte behind the delimiter at the front is no delimiter, where three bytes or more are left. -/
theorem located_code_ne_fend {q q' : List Byte} {r : Option Nat} (h : located q = (r, q')) (h3 : 3 ≤ q'.length) :
    q'[1]? ≠ some FEND := by
  obtain rfl : (located q).2 = q' := by rw [h]
  exact collapsed_not_two_fends h3 (located_front (List.ne_nil_of_length_pos (by omega)))

/-! ### The statements -/

/-- Settles O27: steps 2 and 3 fix the front of what is left, and step 5 finds the first delimiter behind it. -/
theorem locateAnswersTheFirstFrame : Obligations.LocateAnswersTheFirstFrame := by
  intro q
  rcases h : located q with ⟨r, q'⟩
  refine ⟨r, q', by rw [locate_eq, h], suffix_of_located h, ?_, ?_, ?_⟩
  · simpa [h] using located_front (q := q)
  · rintro n rfl
    obtain ⟨h3, hn, -, hend⟩ := located_found h
    exact ⟨h3, hn, located_code_ne_fend h (h3.trans hn), hend, fun i => located_found_first h⟩
  · rintro rfl
    obtain hlt | h3 := Nat.lt_or_ge q'.length 3
    · exact .inr (.inl hlt)
    · exact .inr (.inr ⟨h3, located_code_ne_fend h h3, fun i => located_none h h3⟩)

/-- Settles O28: what is left holds no garbage, and collapsing it again changes nothing. -/
theorem locateIsIdempotent : Obligations.LocateIsIdempotent := by
  intro q q' r h
  rw [locate_eq, Except.ok.injEq] at h ⊢
  have hq' : (located q).2 = q' := by rw [h]
  have hclean : q'.dropWhile (· != FEND) = q' := by
    subst hq'
    exact dropWhile_ne_fend_eq_self located_front
  have hcollapsed : collapsed q' = q' := by
    rw [← hq', located_snd, collapsed_collapsed]
  rw [located_of_collapsed hclean hcollapsed, ← h, located_of_collapsed rfl hq']

/-- Settles O29: by what steps 2 and 3 leave; where a frame stands behind them, step 5 finds its end. -/
theorem locateRemovesOnlyGarbageAndSurplusFends : Obligations.LocateRemovesOnlyGarbageAndSurplusFends := by
  refine ⟨fun junk rest m hjunk hrest hm => ?_, fun junk body rest m c hjunk hc hbody => ?_⟩
  · refine ⟨(located (junk ++ List.replicate m FEND ++ rest)).1, ?_⟩
    rw [locate_eq, ← located_snd_of_parts hjunk hrest hm]
  · have hleft : (located (junk ++ List.replicate (m + 1) FEND ++ (c :: body ++ FEND :: rest))).2 =
        FEND :: c :: body ++ FEND :: rest := located_snd_of_parts hjunk (by simpa using hc) (by simp)
    rw [List.append_assoc, locate_eq, located_of_collapsed rfl hleft, if_neg (by simp; omega)]
    simp [findIdx?_fend_append hbody]

/-- Settles O30: there is no garbage, and too few bytes are left for a frame. -/
theorem fendOnlyBufferYieldsNone : Obligations.FendOnlyBufferYieldsNone := by
  intro m
  have hclean : (List.replicate m FEND).dropWhile (· != FEND) = List.replicate m FEND := by simp
  rw [locate_eq, located_of_collapsed hclean (collapsed_fends m), if_pos (by simp)]

/-- Settles O31: where a frame is found and where none is. -/
theorem locateCommandRecordsTheFrameLength : Obligations.LocateCommandRecordsTheFrameLength := by
  intro b l s _
  refine ⟨decodeOfEncodeIsTheInstruction (.locate b l) rfl, (located s.inBuf).1, (located s.inBuf).2, locate_eq _, ?_⟩
  rcases h : located s.inBuf with ⟨_ | n, q⟩
  · exact exec_locate_of_none h
  · exact exec_locate_of_found h

end Sys2Proof.Machine
end

section
/-! The Frame Decoder: the escape codec byte by byte, and what `DECODE` latches or refuses (42_frame_decoder.md R115 to
R124). -/

namespace Sys2Proof.Machine

/-! ### The escape codec -/

theorem unescape_cons_of_ne {p : Params} {x : Byte} (hx : x ≠ p.fesc) (r : List Byte) :
    unescape p (x :: r) = x :: unescape p r := by
  cases r with
  | nil => exact if_neg hx
  | cons y r => rw [unescape, if_neg hx]

/-- `FESC` takes the next byte with it, whatever that byte is (R122, R123). -/
theorem unescape_fesc_cons (p : Params) (x : Byte) (r : List Byte) :
    unescape p (p.fesc :: x :: r) =
      (if x = p.tfend then FEND else if x = p.tfesc then p.fesc else x) :: unescape p r := by
  rw [unescape, if_pos rfl]

theorem decodeBody_of_none {p : Params} (h : p.escapeMode = .none) (raw : List Byte) : decodeBody p raw = raw := by
  simp only [decodeBody, h]

theorem decodeBody_of_kiss {p : Params} (h : p.escapeMode = .kiss) (raw : List Byte) :
    decodeBody p raw = unescape p raw := by
  simp only [decodeBody, h]

theorem decodeBody_eq_ite (p : Params) (raw : List Byte) :
    decodeBody p raw = if p.escapeMode = .kiss then unescape p raw else raw := by
  cases h : p.escapeMode with
  | none => exact decodeBody_of_none h raw
  | kiss => exact decodeBody_of_kiss h raw

/-- Settles O35: an ordinary byte, `FESC` before each kind of byte, and `FESC` at the end. -/
theorem unescapeTreatsEachEscapeAsStated : Obligations.UnescapeTreatsEachEscapeAsStated := by
  intro p r
  refine ⟨fun hkiss => ?_, rfl, fun x hx => ?_, ?_, fun hne => ?_, fun x hfend hfesc => ?_, ?_⟩
  · exact decodeBody_of_kiss hkiss r
  · exact unescape_cons_of_ne hx r
  · rw [unescape_fesc_cons, if_pos rfl]
  · rw [unescape_fesc_cons, if_neg hne, if_pos rfl]
  · rw [unescape_fesc_cons, if_neg hfend, if_neg hfesc]
  · exact if_pos rfl

/-! ### `DECODE` -/

/-- Settles O33: the equation of a `DECODE` that fails says the same update; the masks on `STATUS` are what the named bits
compute to. -/
theorem decodeOfABadLengthIsMalformed : Obligations.DecodeOfABadLengthIsMalformed := by
  intro b l s hbad
  exact exec_decode_of_bad hbad

/-- Settles O32: the equation of a `DECODE` that succeeds, with the two escape modes written as one body. -/
theorem decodeLatchesCodeAndBody : Obligations.DecodeLatchesCodeAndBody := by
  intro b l s c h2 hl hc raw body
  have hbody : decodeBody s.cfg raw = body := decodeBody_eq_ite s.cfg raw
  rw [exec_decode_of_good h2 hl hc, ← hbody]
  rfl

end Sys2Proof.Machine
end

section
/-! A frame `Locate()` has found can be decoded, and `POLL` never meets a malformed one (42_frame_decoder.md R126). -/

namespace Sys2Proof.Machine

/-! ### What the shared updates leave of the `STATUS` bits -/

@[simp] theorem State.flag_finish (s : State) (c : ResultCode) (d : Half) (g : StatusBit) :
    (s.finish c d).flag g = s.flag g := rfl

@[simp] theorem State.flag_clearLocated (s : State) (g : StatusBit) :
    s.clearLocated.flag g = if g = .locValid then false else s.flag g := statusBit_withStatusBit _ _ _ _

@[simp] theorem State.flag_setLocated (s : State) (n : Nat) (g : StatusBit) :
    (s.setLocated n).flag g = if g = .locValid then true else s.flag g := statusBit_withStatusBit _ _ _ _

@[simp] theorem State.flag_discardLatch (s : State) (g : StatusBit) :
    s.discardLatch.flag g = if g = .decValid then false else s.flag g := statusBit_withStatusBit _ _ _ _

@[simp] theorem State.flag_fillLatch (s : State) (c : Byte) (body : List Byte) (g : StatusBit) :
    (s.fillLatch c body).flag g = if g = .decValid then true else s.flag g := statusBit_withStatusBit _ _ _ _

/-- The buffers are no part of `STATUS`. -/
@[simp] theorem State.flag_setInBuf (s : State) (q : List Byte) (g : StatusBit) :
    ({ s with inBuf := q } : State).flag g = s.flag g := rfl

/-- A `Decode(n)` that succeeds sets `DEC_VALID`, clears `LOC_VALID`, and writes no other bit (R124). -/
@[simp] theorem State.flag_decoded (s : State) (n : Nat) (c : Byte) (g : StatusBit) :
    (s.decoded n c).flag g = if g = .locValid then false else if g = .decValid then true else s.flag g := by
  simp only [State.decoded, State.flag_clearLocated, State.flag_fillLatch, State.flag_setInBuf]

@[simp] theorem State.afterText_flag (s : State) (g : StatusBit) : s.afterText.flag g = s.flag g := by
  unfold State.afterText; split <;> rfl

/-- The capability port reaches no `STATUS` bit. -/
@[simp] theorem request_flag (a : Action) (body : List Byte) (s : State) (g : StatusBit) :
    (request a body s).2.flag g = s.flag g := by
  cases a with
  | beacon | haltRadio => rfl
  | deployAntenna | reportStatus => exact s.afterText_flag g

/-- An emission writes `OUT_OVF` and no other bit (44_frame_encoder.md R155). -/
theorem State.afterFrame_flag (s : State) (f : List Byte) {g : StatusBit} (hg : g ≠ .outOvf) :
    (s.afterFrame f).flag g = s.flag g := by
  unfold State.afterFrame
  split
  · rfl
  · exact (s.flag_setFlag .outOvf g true).trans (if_neg hg)

theorem afterRequest_flag (x : Option (List Byte) × State) (d : Bool) {g : StatusBit} (hg : g ≠ .outOvf) :
    (afterRequest x d).1.flag g = x.2.flag g := by
  rcases x with ⟨_ | text, s⟩
  · rfl
  · exact s.afterFrame_flag _ hg

/-- Running an entry of the dispatch table writes no bit but `OUT_OVF` (43_command_dispatcher.md R145). -/
theorem entryRun_flag (e : Descriptor) (c : Byte) (body : List Byte) (s : State) {g : StatusBit} (hg : g ≠ .outOvf) :
    (entryRun e c body s).1.flag g = s.flag g := by
  cases e with
  | passThrough | unknown => exact s.afterFrame_flag _ hg
  | ackThenAction a p =>
    calc (entryRun (.ackThenAction a p) c body s).1.flag g
        = (request a body (s.afterFrame (ackFrame s.cfg c))).2.flag g := afterRequest_flag _ _ hg
      _ = (s.afterFrame (ackFrame s.cfg c)).flag g := request_flag a body _ g
      _ = s.flag g := s.afterFrame_flag _ hg

/-- Consuming the latched command clears `DEC_VALID` and may set `OUT_OVF`. -/
theorem State.latchFinished_flag (s : State) (d : Half) {g : StatusBit} (hg : g ≠ .outOvf) (hdec : g ≠ .decValid) :
    (s.latchFinished d).flag g = s.flag g := by
  have hrun : (s.latchFinished d).flag g = s.discardLatch.flag g := entryRun_flag _ _ _ _ hg
  rw [hrun, State.flag_discardLatch, if_neg hdec]

/-! ### A located frame -/

/-- Between the code and the delimiter that ends the frame found there is no delimiter (41_frame_locator.md R105). -/
theorem located_found_body {q q' : List Byte} {n : Nat} (h : located q = (some n, q')) :
    FEND ∉ (q'.take (n - 1)).drop 2 := by
  intro hmem
  obtain ⟨i, hi⟩ := List.mem_iff_getElem?.1 hmem
  rw [List.getElem?_drop, List.getElem?_take, Option.ite_none_right_eq_some] at hi
  obtain ⟨hlt, hget⟩ := hi
  exact located_found_first h (by omega) hlt hget

/-- A `LOCATE` that leaves `LOC_VALID` set has found a frame. -/
theorem located_of_locValid {s t : State} {b : Byte} {l : Half} (h : exec (.locate b l) s = .next t)
    (hv : t.flag .locValid = true) : ∃ n q, located s.inBuf = (some n, q) ∧
      t = (({ s with inBuf := q } : State).setLocated n).finish .ok (half n) := by
  rcases hq : located s.inBuf with ⟨_ | n, q⟩
  · cases (exec_locate_of_none hq).symm.trans h
    simp at hv
  · cases (exec_locate_of_found hq).symm.trans h
    exact ⟨n, q, rfl, rfl⟩

/-- `POLL` decodes only frames it has located, so it leaves `MALFORMED` as it was, in every state. -/
theorem poll_flag_malformed {s t : State} {b : Byte} {l : Half} (h : exec (.poll b l) s = .next t) :
    t.flag .malformed = s.flag .malformed := by
  have hlatch (u : State) (d : Half) : (u.latchFinished d).flag .malformed = u.flag .malformed :=
    u.latchFinished_flag d (by decide) (by decide)
  cases hv : s.flag .decValid with
  | true =>
    cases (exec_poll_of_latched hv).symm.trans h
    exact hlatch _ _
  | false =>
    rcases hq : located s.inBuf with ⟨_ | n, q⟩
    · cases (exec_poll_of_none hv hq).symm.trans h
      simp
    · obtain ⟨h3, hn, -, -⟩ := located_found hq
      have hc : q[1]? = some q[1] := List.getElem?_eq_getElem _
      cases (exec_poll_of_found hv hq hc).symm.trans h
      simp [hlatch]

/-- Settles O34: the frame found lies within what `LOCATE` leaves of `IN`, and `LOC_LEN` holds its length exactly, so
`DECODE` of `LOC_LEN` is within the buffer. -/
theorem decodeOfALocatedLengthSucceeds : Obligations.DecodeOfALocatedLengthSucceeds := by
  intro b b' l s t hsize hexec hvalid
  obtain ⟨n, q, hq, rfl⟩ := located_of_locValid hexec hvalid
  obtain ⟨h3, hn, -, -⟩ := located_found hq
  have hle : q.length ≤ s.inBuf.length := (suffix_of_located hq).length_le
  have hlen : (half n).toNat = n := half_toNat (by omega)
  have hc : q[1]? = some q[1] := List.getElem?_eq_getElem _
  set t := (({ s with inBuf := q } : State).setLocated n).finish .ok (half n)
  have htLen : t.locLen.toNat = n := hlen
  have hdecode : exec (.decode b' t.locLen) t =
      .next ((t.decoded t.locLen.toNat q[1]).finish .ok (t.decoded t.locLen.toNat q[1]).decLen) :=
    exec_decode_of_good (by omega) (by rw [htLen]; exact hn) hc
  obtain ⟨v, hpoll, -⟩ := poll_effect s b l
  refine ⟨?_, ⟨_, hdecode, rfl, ?_, ?_, rfl⟩, v, hpoll, poll_flag_malformed hpoll⟩
  · rw [htLen]; exact located_found_body hq
  · simp
  · simp [t]

end Sys2Proof.Machine
end

section
/-! What a dispatched command logs (43_command_dispatcher.md R133 to R143): the events of an entry's arm as a list, what the
list says of `STATUS`, and the status text the arm draws. -/

namespace Sys2Proof.Machine

/-! ### The entry a code selects -/

/-- The `Unknown` entry answers the codes outside the table, and no other (30_encoding.md R77). -/
theorem lookupCode_eq_unknown_iff (c : Byte) : lookupCode c = .unknown ↔ c ∉ recognizedCodes := by
  revert c; decide

theorem recognizedCodes_cases {c : Byte} (h : c ∈ recognizedCodes) :
    c = 0x00#8 ∨ c = 0x07#8 ∨ c = 0x08#8 ∨ c = 0x09#8 ∨ c = 0x0A#8 := by
  simpa [recognizedCodes] using h

/-- A wire command, of any code, runs the entry its code selects. -/
theorem exec_wire (c : Byte) (body : List Byte) (s : State) :
    exec (decode (.wire c body)) s = .next (s.entryFinished (lookupCode c) c body (zext16 c)) := by
  by_cases h : c ∈ recognizedCodes
  · obtain rfl | rfl | rfl | rfl | rfl := recognizedCodes_cases h
    · exact exec_codePassThrough body
    · exact exec_codeBeacon body
    · exact exec_codeDeployAntenna body
    · exact exec_codeReportStatus body
    · exact exec_codeHaltRadio body
  · rw [decode_wire_of_unrecognized h, (lookupCode_eq_unknown_iff c).2 h]
    exact exec_codeUnrecognized c body

/-- `Result(c, dropped)` as a value (R145). -/
theorem entryResult_lookupCode_bits (c : Byte) (dropped : Bool) :
    (entryResult (lookupCode c) dropped).bits =
      if dropped then 5#4 else if c ∈ recognizedCodes then 0#4 else 3#4 := by
  cases dropped with
  | true => rfl
  | false =>
    by_cases h : c ∈ recognizedCodes
    · simp [entryResult, lookupCode_eq_unknown_iff, h, ResultCode.bits]
    · simp [entryResult, lookupCode_eq_unknown_iff, h, ResultCode.bits]

/-! ### Events -/

/-- A request is no emission, done or dropped. -/
theorem Event.no_emission_of_isRequest {e : Event} (h : e.isRequest = true) :
    e.attempted = none ∧ e.isDrop = false := by
  cases e with
  | capDeploy | capStatus | capHalt | capBeacon => exact ⟨rfl, rfl⟩
  | frame | dropped | reset => cases h

/-- What one attempt to emit `f` logs (44_frame_encoder.md R155). -/
def State.emission (s : State) (f : List Byte) : Event := if s.fits f then .frame f else .dropped f

theorem State.emission_eq_or (s : State) (f : List Byte) : s.emission f = .frame f ∨ s.emission f = .dropped f :=
  ite_eq_or_eq _ _ _

@[simp] theorem State.emission_attempted (s : State) (f : List Byte) : (s.emission f).attempted = some f := by
  obtain h | h := s.emission_eq_or f <;> rw [h] <;> rfl

@[simp] theorem State.emission_isDrop (s : State) (f : List Byte) : (s.emission f).isDrop = !s.fits f := by
  unfold State.emission; cases s.fits f <;> rfl

theorem State.emission_isRequest (s : State) (f : List Byte) : (s.emission f).isRequest = false := by
  obtain h | h := s.emission_eq_or f <;> rw [h] <;> rfl

/-! ### The status text -/

theorem State.nextText_of_cons {s : State} {x : List Byte} {rest : List (List Byte)} (h : s.answers = x :: rest) :
    s.nextText = x := by
  simp only [State.nextText, h]

/-- An emission draws nothing, so the text answered next is the same. -/
@[simp] theorem State.nextText_afterFrame (s : State) (f : List Byte) : (s.afterFrame f).nextText = s.nextText := by
  simp only [State.nextText, State.afterFrame_answers, State.afterFrame_draws]

/-- Answering a text uses up the scripted answer, or counts the draw where none is left. -/
@[simp] theorem State.afterText_script (s : State) : s.afterText.answers = s.answers.tail ∧
    s.afterText.draws = s.draws + if s.answers = [] then 1 else 0 := by
  unfold State.afterText; split <;> simp [*]

/-- Answering a text touches the script and the count of draws only. -/
theorem State.afterText_frame (s : State) :
    s.afterText = { s with answers := s.afterText.answers, draws := s.afterText.draws } := by
  unfold State.afterText; split <;> rfl

/-! ### Requests -/

/-- Whether an action's request answers a status text (R135 to R138). -/
def answersText : Action → Bool
  | .deployAntenna | .reportStatus => true
  | .beacon | .haltRadio => false

/-- The event of an action's request. -/
def requestEvent (a : Action) (body : List Byte) (s : State) : Event :=
  match a with
  | .beacon => .capBeacon (body.take s.cfg.maxCommandSize.toNat)
  | .deployAntenna => .capDeploy s.nextText
  | .reportStatus => .capStatus s.nextText
  | .haltRadio => .capHalt

theorem requestEvent_isRequest (a : Action) (body : List Byte) (s : State) :
    (requestEvent a body s).isRequest = true := by
  cases a <;> rfl

/-- The ACK frame has no influence on the request. -/
@[simp] theorem requestEvent_afterFrame (a : Action) (body : List Byte) (s : State) (f : List Byte) :
    requestEvent a body (s.afterFrame f) = requestEvent a body s := by
  cases a <;> simp [requestEvent]

theorem requestEvent_of_answersText {a : Action} (ha : answersText a = true) (body : List Byte) (s : State) :
    requestEvent a body s = .capDeploy s.nextText ∨ requestEvent a body s = .capStatus s.nextText := by
  cases a with
  | deployAntenna => exact .inl rfl
  | reportStatus => exact .inr rfl
  | beacon | haltRadio => cases ha

theorem request_of_answersText {a : Action} (ha : answersText a = true) (body : List Byte) (s : State) :
    request a body s = (some s.nextText, s.afterText.logEvent (requestEvent a body s)) := by
  cases a with
  | deployAntenna | reportStatus => rfl
  | beacon | haltRadio => cases ha

theorem request_of_no_text {a : Action} (ha : answersText a = false) (body : List Byte) (s : State) :
    request a body s = (none, s.logEvent (requestEvent a body s)) := by
  cases a with
  | deployAntenna | reportStatus => cases ha
  | beacon | haltRadio => rfl

/-! ### What an action's arm leaves -/

/-- The state once the ACK is attempted and a text is answered: the one in which the data Response is attempted. -/
def State.afterAnswer (s : State) (a : Action) (c : Byte) (body : List Byte) : State :=
  (s.afterFrame (ackFrame s.cfg c)).afterText.logEvent (requestEvent a body s)

section

variable {a : Action} {p : BodyPolicy} {c : Byte} {body : List Byte} {s : State}

/-- An action that answers a text: the ACK, the request, and the data Response of the text (R136, R137). -/
theorem entryRun_of_answersText (ha : answersText a = true) :
    entryRun (.ackThenAction a p) c body s =
      (((s.afterAnswer a c body).afterFrame (resFrame s.cfg s.nextText)).setDispKind .ackRes,
        !s.fits (ackFrame s.cfg c) || !(s.afterAnswer a c body).fits (resFrame s.cfg s.nextText)) := by
  simp [entryRun, request_of_answersText ha, afterRequest, State.afterAnswer]

/-- An action that answers none: the ACK and the request (R135, R138). -/
theorem entryRun_of_no_text (ha : answersText a = false) :
    entryRun (.ackThenAction a p) c body s =
      (((s.afterFrame (ackFrame s.cfg c)).logEvent (requestEvent a body s)).setDispKind .ack,
        !s.fits (ackFrame s.cfg c)) := by
  simp [entryRun, request_of_no_text ha, afterRequest]

end

/-! ### What an entry logs -/

/-- The events an entry's arm logs, in order (R134 to R139, R142). -/
def entryEvents (e : Descriptor) (c : Byte) (body : List Byte) (s : State) : List Event :=
  match e with
  | .passThrough => [s.emission (passFrame s.cfg c body)]
  | .unknown => [s.emission (nackFrame s.cfg c)]
  | .ackThenAction a _ =>
    s.emission (ackFrame s.cfg c) :: requestEvent a body s ::
      if answersText a then [(s.afterAnswer a c body).emission (resFrame s.cfg s.nextText)] else []

/-- `Logs s evs t`: between `s` and `t` the events `evs` are logged, and `OUT_OVF` is set exactly if one of them is a
dropped frame; no other `STATUS` bit is written. -/
structure Logs (s : State) (evs : List Event) (t : State) : Prop where
  evlog : t.evlog = s.evlog ++ evs
  status : t.status = if evs.any Event.isDrop then s.status ||| 0x10#8 else s.status

namespace Logs

variable {s t u : State} {evs evs' : List Event}

theorem trans (h : Logs s evs t) (h' : Logs t evs' u) : Logs s (evs ++ evs') u where
  evlog := by rw [h'.evlog, h.evlog, List.append_assoc]
  status := by
    rw [h'.status, h.status, List.any_append]
    cases evs.any Event.isDrop <;> cases evs'.any Event.isDrop <;> simp [BitVec.or_assoc]

theorem setDispKind (h : Logs s evs t) (k : DispKind) : Logs s evs (t.setDispKind k) := { h with }

theorem afterFrame (s : State) (f : List Byte) : Logs s [s.emission f] (s.afterFrame f) where
  evlog := s.afterFrame_evlog f
  status := by unfold State.afterFrame; cases h : s.fits f <;> simp [h]

theorem request (s : State) {e : Event} (he : e.isRequest = true) : Logs s [e] (s.logEvent e) where
  evlog := rfl
  status := by simp [Event.no_emission_of_isRequest he]

theorem afterText (s : State) : Logs s [] s.afterText := by
  rw [State.afterText_frame]
  exact ⟨(List.append_nil _).symm, rfl⟩

theorem entryRun (e : Descriptor) (c : Byte) (body : List Byte) (s : State) :
    Logs s (entryEvents e c body s) (Machine.entryRun e c body s).1 := by
  cases e with
  | passThrough | unknown => exact (afterFrame s _).setDispKind _
  | ackThenAction a p =>
    have hack := afterFrame s (ackFrame s.cfg c)
    have hreq (v : State) := request v (requestEvent_isRequest a body s)
    cases ha : answersText a with
    | false =>
      rw [entryRun_of_no_text ha, entryEvents, ha]
      exact (hack.trans (hreq _)).setDispKind _
    | true =>
      rw [entryRun_of_answersText ha, entryEvents, ha]
      exact (((hack.trans (afterText _)).trans (hreq _)).trans (afterFrame _ _)).setDispKind _

end Logs

/-- The flag `dropped` of R145 says whether a dropped frame was logged. -/
theorem entryRun_dropped (e : Descriptor) (c : Byte) (body : List Byte) (s : State) :
    (entryRun e c body s).2 = (entryEvents e c body s).any Event.isDrop := by
  cases e with
  | passThrough | unknown => simp [entryRun, entryEvents]
  | ackThenAction a p =>
    have hreq := Event.no_emission_of_isRequest (requestEvent_isRequest a body s)
    cases ha : answersText a with
    | false => simp [entryRun_of_no_text ha, entryEvents, ha, hreq]
    | true => simp [entryRun_of_answersText ha, entryEvents, ha, hreq]

theorem State.entryFinished_logs (s : State) (e : Descriptor) (c : Byte) (body : List Byte) (d : Half) :
    Logs s (entryEvents e c body s) (s.entryFinished e c body d) :=
  { Logs.entryRun e c body s with }

/-- The frames an action's arm attempts to emit: the request between them is none. -/
theorem entryEvents_attempted_of_action (a : Action) (p : BodyPolicy) (c : Byte) (body : List Byte) (s : State) :
    (entryEvents (.ackThenAction a p) c body s).filterMap Event.attempted =
      ackFrame s.cfg c :: if answersText a then [resFrame s.cfg s.nextText] else [] := by
  have hreq := Event.no_emission_of_isRequest (requestEvent_isRequest a body s)
  cases ha : answersText a <;> simp [entryEvents, ha, hreq]

end Sys2Proof.Machine
end

section
/-! The Command Dispatcher: what `DISPATCH` does with the latched command and answers, and what each wire command does
(43_command_dispatcher.md R130 to R147). -/

namespace Sys2Proof.Machine

/-! ### `DISPATCH` -/

/-- Settles O37: the equation of a `DISPATCH` that finds the latch empty. -/
theorem dispatchWithoutACommandDoesNothing : Obligations.DispatchWithoutACommandDoesNothing := by
  intro b l s h
  exact exec_dispatch_of_empty h

/-- Settles O38: both sides run the entry the latched code selects, on the state with the latch discarded. -/
theorem dispatchExecutesTheLatchedWireCommand : Obligations.DispatchExecutesTheLatchedWireCommand := by
  intro b l s h
  rw [exec_dispatch_of_latched h, exec_wire]
  rfl

/-- Settles O39: the entry's events are logged from the state with the latch discarded, and decide `STATUS` and the
result. -/
theorem dispatchAnswersOverflowThenUnrecognizedThenOk : Obligations.DispatchAnswersOverflowThenUnrecognizedThenOk := by
  intro b l s h
  have hlogs := s.discardLatch.entryFinished_logs (lookupCode s.decCode) s.decCode s.decBody (zext16 s.decCode)
  refine ⟨_, _, _, exec_dispatch_of_latched h, hlogs.evlog, s.discardLatch.entryFinished_responses _ _ _ _, rfl,
    hlogs.status, ?_⟩
  rw [entryRun_dropped, entryResult_lookupCode_bits]
  rfl

/-! ### The wire commands -/

/-- The end of a wire command writes `RESULT` and one response word. -/
theorem State.entryFinished_eq (s : State) (e : Descriptor) (c : Byte) (body : List Byte) (d : Half) :
    ∃ res resp, s.entryFinished e c body d =
      { (entryRun e c body s).1 with result := res, responses := s.responses ++ [resp] } := by
  rw [← entryRun_responses e c body s]
  exact ⟨_, _, rfl⟩

/-- The wire command of an action that answers no text. -/
theorem State.entryFinished_of_no_text {a : Action} (ha : answersText a = false) (p : BodyPolicy) (c : Byte)
    (body : List Byte) (d : Half) (s : State) : ∃ res resp,
    s.entryFinished (.ackThenAction a p) c body d =
      { s.afterFrame (ackFrame s.cfg c) with
        evlog := (s.afterFrame (ackFrame s.cfg c)).evlog ++ [requestEvent a body s], dispKind := 2#3, result := res,
        responses := s.responses ++ [resp] } := by
  obtain ⟨res, resp, h⟩ := s.entryFinished_eq (.ackThenAction a p) c body d
  rw [h, entryRun_of_no_text ha]
  exact ⟨res, resp, rfl⟩

/-- The wire command of an action that answers a text. -/
theorem State.entryFinished_of_answersText {a : Action} (ha : answersText a = true) (p : BodyPolicy) (c : Byte)
    (body : List Byte) (d : Half) (s : State) : ∃ an dr res resp,
    s.entryFinished (.ackThenAction a p) c body d =
      { ({ s.afterFrame (ackFrame s.cfg c) with
            answers := an, draws := dr,
            evlog := (s.afterFrame (ackFrame s.cfg c)).evlog ++ [requestEvent a body s] } : State).afterFrame
          (resFrame s.cfg s.nextText) with
        dispKind := 3#3, result := res, responses := s.responses ++ [resp] } := by
  obtain ⟨res, resp, h⟩ := s.entryFinished_eq (.ackThenAction a p) c body d
  rw [h, entryRun_of_answersText ha, State.afterAnswer, State.afterText_frame]
  exact ⟨_, _, res, resp, rfl⟩

/-- Settles O40: the pass-through entry's arm is one emission and the kind. -/
theorem passThroughCopiesTheFrame : Obligations.PassThroughCopiesTheFrame := by
  intro body s
  obtain ⟨res, resp, h⟩ := s.entryFinished_eq .passThrough 0x00#8 body (zext16 0x00#8)
  exact ⟨res, resp, by rw [exec_codePassThrough, h]; rfl⟩

/-- Settles O41: an action that answers no text. -/
theorem beaconAcknowledgesThenRequestsTheText : Obligations.BeaconAcknowledgesThenRequestsTheText := by
  intro body s
  obtain ⟨res, resp, h⟩ :=
    State.entryFinished_of_no_text (a := .beacon) rfl .maximum 0x07#8 body (zext16 0x07#8) s
  exact ⟨res, resp, by rw [exec_codeBeacon, h]; rfl⟩

/-- Settles O45: an action that answers no text. -/
theorem haltAcknowledgesThenRequestsTheHalt : Obligations.HaltAcknowledgesThenRequestsTheHalt := by
  intro body s
  obtain ⟨res, resp, h⟩ :=
    State.entryFinished_of_no_text (a := .haltRadio) rfl .none 0x0A#8 body (zext16 0x0A#8) s
  exact ⟨res, resp, by rw [exec_codeHaltRadio, h]; rfl⟩

/-- Settles O42: an action that answers a text. -/
theorem deployAcknowledgesThenAnswersTheStatusText : Obligations.DeployAcknowledgesThenAnswersTheStatusText := by
  intro body s
  obtain ⟨an, dr, res, resp, h⟩ :=
    State.entryFinished_of_answersText (a := .deployAntenna) rfl .none 0x08#8 body (zext16 0x08#8) s
  exact ⟨s.nextText, an, dr, res, resp, by rw [exec_codeDeployAntenna, h]; rfl⟩

/-- Settles O43: an action that answers a text. -/
theorem reportStatusAcknowledgesThenAnswersTheStatusText :
    Obligations.ReportStatusAcknowledgesThenAnswersTheStatusText := by
  intro body s
  obtain ⟨an, dr, res, resp, h⟩ :=
    State.entryFinished_of_answersText (a := .reportStatus) rfl .none 0x09#8 body (zext16 0x09#8) s
  exact ⟨s.nextText, an, dr, res, resp, by rw [exec_codeReportStatus, h]; rfl⟩

/-- Settles O46: the decoder's last row, and the arm of the `Unknown` entry. -/
theorem unrecognizedCodeIsAnsweredWithNack : Obligations.UnrecognizedCodeIsAnsweredWithNack := by
  intro c body s
  obtain ⟨res, resp, h⟩ := s.entryFinished_eq .unknown c body (zext16 c)
  exact ⟨fun hc => decode_wire_of_unrecognized hc body, res, resp, by rw [exec_codeUnrecognized, h]; rfl⟩

/-! ### What is logged, code by code -/

/-- The codes of the `AckThenAction` entries, and which of their actions answer a text (30_encoding.md R76). -/
theorem lookupCode_of_action {c : Byte} (h : c ∈ [0x07#8, 0x08#8, 0x09#8, 0x0A#8]) :
    ∃ a p, lookupCode c = .ackThenAction a p ∧ (answersText a = true ↔ c ∈ [0x08#8, 0x09#8]) := by
  simp only [List.mem_cons, List.not_mem_nil, or_false] at h
  obtain rfl | rfl | rfl | rfl := h <;> exact ⟨_, _, rfl, by decide⟩

/-- Settles O47: the events of an action's arm are logged in this order. -/
theorem ackComesBeforeTheActionAndItsResponse : Obligations.AckComesBeforeTheActionAndItsResponse := by
  intro c body s hc
  obtain ⟨a, p, hlookup, htext⟩ := lookupCode_of_action hc
  have hlogs := s.entryFinished_logs (.ackThenAction a p) c body (zext16 c)
  rw [exec_wire, hlookup]
  refine ⟨_, _, _, _, rfl, hlogs.evlog, s.emission_eq_or _, requestEvent_isRequest a body s, fun h => ?_, fun h => ?_⟩
  · have ha := htext.2 h
    refine ⟨s.nextText, requestEvent_of_answersText ha body s, ?_⟩
    rw [if_pos ha]
    exact (State.emission_eq_or _ _).imp (congrArg ([·])) (congrArg ([·]))
  · exact if_neg (mt htext.1 h)

/-- The frames a command's entry attempts to emit, by its code (R134 to R139). -/
theorem entryEvents_attempted (c : Byte) (body : List Byte) (s : State) :
    (entryEvents (lookupCode c) c body s).filterMap Event.attempted =
      (if c = 0x00#8 then passFrame s.cfg c body
        else if c ∈ [0x07#8, 0x08#8, 0x09#8, 0x0A#8] then ackFrame s.cfg c else nackFrame s.cfg c) ::
      (if c ∈ [0x08#8, 0x09#8] then [resFrame s.cfg s.nextText] else []) := by
  by_cases hpass : c = 0x00#8
  · subst hpass
    have hlookup : lookupCode 0x00#8 = .passThrough := rfl
    simp [hlookup, entryEvents]
  by_cases haction : c ∈ [0x07#8, 0x08#8, 0x09#8, 0x0A#8]
  · obtain ⟨a, p, hlookup, htext⟩ := lookupCode_of_action haction
    simp only [hlookup, entryEvents_attempted_of_action, htext, if_neg hpass, if_pos haction]
  · have hunknown : lookupCode c = .unknown := by
      rw [lookupCode_eq_unknown_iff]
      exact fun h => (List.mem_cons.1 h).elim hpass haction
    have hnotext : c ∉ [0x08#8, 0x09#8] := by simp_all
    rw [hunknown, if_neg hpass, if_neg haction, if_neg hnotext]
    simp [entryEvents]

/-- Settles O48: the frames among the events of the entry the latched code selects. -/
theorem everyConsumedCommandHasItsResponsesAttempted : Obligations.EveryConsumedCommandHasItsResponsesAttempted := by
  intro b l s h
  have hlogs := s.discardLatch.entryFinished_logs (lookupCode s.decCode) s.decCode s.decBody (zext16 s.decCode)
  exact ⟨_, _, s.discardLatch.nextText, exec_dispatch_of_latched h, hlogs.evlog,
    entryEvents_attempted s.decCode s.decBody s.discardLatch⟩

/-- The two codes whose action answers a text, and the request of each. -/
theorem lookupCode_of_text {c : Byte} (h : c = 0x08#8 ∨ c = 0x09#8) :
    ∃ a p, lookupCode c = .ackThenAction a p ∧ answersText a = true ∧ ∀ body s,
      requestEvent a body s = if c = 0x08#8 then .capDeploy s.nextText else .capStatus s.nextText := by
  obtain rfl | rfl := h <;> exact ⟨_, _, rfl, rfl, fun _ _ => rfl⟩

/-- An action that answers a text uses up what one answer does. -/
theorem State.entryFinished_script {a : Action} (ha : answersText a = true) (p : BodyPolicy) (c : Byte)
    (body : List Byte) (d : Half) (s : State) :
    (s.entryFinished (.ackThenAction a p) c body d).answers = s.answers.tail ∧
      (s.entryFinished (.ackThenAction a p) c body d).draws = s.draws + if s.answers = [] then 1 else 0 := by
  simp [State.entryFinished, entryRun_of_answersText ha, State.afterAnswer]

/-- Settles O44: the events of an action that answers a text, and what it leaves of the script and the count of draws. -/
theorem statusTextsAreScriptedAnswersThenFreeValues : Obligations.StatusTextsAreScriptedAnswersThenFreeValues := by
  intro c body s hc
  obtain ⟨a, p, hlookup, htext, hreq⟩ := lookupCode_of_text hc
  have hlogs := (s.entryFinished_logs (.ackThenAction a p) c body (zext16 c)).evlog
  obtain ⟨hanswers, hdraws⟩ := State.entryFinished_script htext p c body (zext16 c) s
  rw [entryEvents, if_pos htext, hreq] at hlogs
  rw [exec_wire, hlookup]
  refine ⟨_, _, s.nextText, _, rfl, hlogs, State.emission_attempted _ _, fun x rest h => ?_, fun h => ?_⟩
  · exact ⟨State.nextText_of_cons h, by rw [hanswers, h, List.tail_cons], by simpa [h] using hdraws⟩
  · exact ⟨by rw [hanswers, h, List.tail_nil], by simpa [h] using hdraws⟩

end Sys2Proof.Machine
end

section
/-! Who makes a capability request (43_command_dispatcher.md R149): `DISPATCH` and `POLL`, by the entry they run. -/

namespace Sys2Proof.Machine

/-- Between `s` and `t` no request is made: none is logged, and no scripted answer is used. -/
def Requestless (s t : State) : Prop :=
  t.answers = s.answers ∧ ∃ evs, t.evlog = s.evlog ++ evs ∧ ∀ e ∈ evs, e.isRequest = false

theorem Requestless.of_eq {s t : State} (hanswers : t.answers = s.answers) (hevlog : t.evlog = s.evlog) :
    Requestless s t := ⟨hanswers, [], by simpa using hevlog, by simp⟩

/-- An emission logs one event, and it is no request. -/
theorem requestless_afterFrame (s : State) (f : List Byte) : Requestless s (s.afterFrame f) := by
  refine ⟨s.afterFrame_answers f, [s.emission f], s.afterFrame_evlog f, fun e he => ?_⟩
  rw [List.mem_singleton.1 he]
  exact s.emission_isRequest f

theorem requestless_reset (s : State) : Requestless s s.resetEvent :=
  ⟨rfl, [.reset], rfl, fun e he => by rw [List.mem_singleton.1 he]; rfl⟩

section

variable {s t : State} {b : Byte} {l : Half}

theorem pushIn_requestless (h : exec (.pushIn b l) s = .next t) : Requestless s t := by
  by_cases hroom : s.inBuf.length < s.cfg.inCap.toNat
  · cases (exec_pushIn_of_room hroom).symm.trans h
    exact .of_eq rfl rfl
  · cases (exec_pushIn_of_full hroom).symm.trans h
    exact .of_eq rfl rfl

theorem popOut_requestless (h : exec (.popOut b l) s = .next t) : Requestless s t := by
  cases hout : s.outBuf with
  | nil => cases (exec_popOut_of_nil hout).symm.trans h; exact .of_eq rfl rfl
  | cons x rest => cases (exec_popOut_of_cons hout).symm.trans h; exact .of_eq rfl rfl

theorem dropIn_requestless (h : exec (.dropIn b l) s = .next t) : Requestless s t := by
  cases exec_dropIn.symm.trans h
  exact .of_eq rfl rfl

theorem locate_requestless (h : exec (.locate b l) s = .next t) : Requestless s t := by
  rcases hq : located s.inBuf with ⟨_ | n, q⟩
  · cases (exec_locate_of_none hq).symm.trans h
    exact .of_eq rfl rfl
  · cases (exec_locate_of_found hq).symm.trans h
    exact .of_eq rfl rfl

theorem decode_requestless (h : exec (.decode b l) s = .next t) : Requestless s t := by
  by_cases hbad : l.toNat < 2 ∨ s.inBuf.length < l.toNat
  · cases (exec_decode_of_bad hbad).symm.trans h
    exact .of_eq rfl rfl
  · obtain ⟨h2, hl⟩ : 2 ≤ l.toNat ∧ l.toNat ≤ s.inBuf.length := by omega
    have hc : s.inBuf[1]? = some s.inBuf[1] := List.getElem?_eq_getElem _
    cases (exec_decode_of_good h2 hl hc).symm.trans h
    exact .of_eq rfl rfl

theorem encAck_requestless (h : exec (.encAck b l) s = .next t) : Requestless s t := by
  cases exec_encAck.symm.trans h
  exact requestless_afterFrame s _

theorem encNack_requestless (h : exec (.encNack b l) s = .next t) : Requestless s t := by
  cases exec_encNack.symm.trans h
  exact requestless_afterFrame s _

theorem encRes_requestless (h : exec (.encRes b l) s = .next t) : Requestless s t := by
  cases hv : s.flag .decValid with
  | false =>
    cases (exec_encRes_of_empty hv).symm.trans h
    exact .of_eq rfl rfl
  | true =>
    by_cases hf : (resFrame s.cfg s.decBody).length < 65536
    · cases (exec_encRes_of_narrow hv hf).symm.trans h
      exact requestless_afterFrame s _
    · cases (exec_encRes_of_wide hv hf).symm.trans h
      exact requestless_afterFrame { s with draws := s.draws + 1 } _

theorem read_requestless (h : exec (.read b l) s = .next t) : Requestless s t := by
  cases hr : readRegister s b with
  | none => cases (exec_read_of_none hr).symm.trans h; exact .of_eq rfl rfl
  | some v => cases (exec_read_of_some hr).symm.trans h; exact .of_eq rfl rfl

theorem readBody_requestless (h : exec (.readBody b l) s = .next t) : Requestless s t := by
  cases hx : s.decBody[l.toNat]? with
  | none => cases (exec_readBody_of_none hx).symm.trans h; exact .of_eq rfl rfl
  | some x => cases (exec_readBody_of_some hx).symm.trans h; exact .of_eq rfl rfl

/-- Every command word but `DISPATCH` and `POLL`; the wire commands are no command word's meaning. -/
theorem command_requestless {w : Word} (h : exec (decode (.word w)) s = .next t)
    (hother : ∀ b l, decode (.word w) ≠ .dispatch b l ∧ decode (.word w) ≠ .poll b l) : Requestless s t := by
  obtain ⟨v, hword⟩ := encode_decode_word_isWord w
  generalize decode (.word w) = i at h hword hother
  cases i with
  | pushIn b l => exact pushIn_requestless h
  | popOut b l => exact popOut_requestless h
  | dropIn b l => exact dropIn_requestless h
  | locate b l => exact locate_requestless h
  | decode b l => exact decode_requestless h
  | dispatch b l => exact absurd rfl (hother b l).1
  | encAck b l => exact encAck_requestless h
  | encNack b l => exact encNack_requestless h
  | encRes b l => exact encRes_requestless h
  | poll b l => exact absurd rfl (hother b l).2
  | read b l => exact read_requestless h
  | readBody b l => exact readBody_requestless h
  | nop | clearStatus | reservedOpE | reservedOpF | reservedRsv => cases h; exact .of_eq rfl rfl
  | codePassThrough | codeBeacon | codeDeployAntenna | codeReportStatus | codeHaltRadio | codeUnrecognized => cases hword

end

/-- Settles O49: an idle step, a reset, and every command word but the two. -/
theorem onlyDispatchAndPollMakeRequests : Obligations.OnlyDispatchAndPollMakeRequests := by
  intro s t h hother
  obtain ⟨-, ⟨-, rfl⟩ | ⟨-, rfl⟩ | ⟨w, u, hfetch, hexec, rfl⟩⟩ := step_cases h
  · exact Requestless.of_eq rfl rfl
  · exact requestless_reset s
  · have hu : Requestless s u := command_requestless hexec (hother w hfetch)
    exact hu

end Sys2Proof.Machine
end

section
/-! The escape codec: `Unescape` undoes `Esc`, and `Esc` leaves no delimiter (30_encoding.md R83, 44_frame_encoder.md
R154). -/

namespace Sys2Proof.Machine

section
variable {p : Params}

/-- In KISS mode the four bytes of the codec are distinct (00_scope.md R9). -/
theorem Params.nodup_of_kiss (hwf : p.wf = true) (hkiss : p.escapeMode = .kiss) :
    [FEND, p.fesc, p.tfend, p.tfesc].Nodup := by
  simp only [Params.wf, hkiss, Bool.and_eq_true, Bool.or_eq_true, decide_eq_true_eq] at hwf
  obtain ⟨-, hmode | ⟨hnodup, -⟩⟩ := hwf
  · cases hmode
  · exact hnodup

/-! ### One byte -/

theorem escapeByte_fend (p : Params) : escapeByte p FEND = [p.fesc, p.tfend] := if_pos rfl

theorem escapeByte_fesc (h : p.fesc ≠ FEND) : escapeByte p p.fesc = [p.fesc, p.tfesc] := by
  rw [escapeByte, if_neg h, if_pos rfl]

theorem escapeByte_of_ne {x : Byte} (hfend : x ≠ FEND) (hfesc : x ≠ p.fesc) : escapeByte p x = [x] := by
  rw [escapeByte, if_neg hfend, if_neg hfesc]

/-- What one byte is written as is read back as that byte, whatever follows it. -/
theorem unescape_escapeByte_append (hnodup : [FEND, p.fesc, p.tfend, p.tfesc].Nodup) (x : Byte) (r : List Byte) :
    unescape p (escapeByte p x ++ r) = x :: unescape p r := by
  have hfesc : p.fesc ≠ FEND := by rintro h; simp [h] at hnodup
  have htfesc : p.tfesc ≠ p.tfend := by rintro h; simp [h] at hnodup
  by_cases hx : x = FEND
  · rw [hx, escapeByte_fend]
    exact (unescape_fesc_cons p p.tfend r).trans (by rw [if_pos rfl])
  · by_cases hx' : x = p.fesc
    · rw [hx', escapeByte_fesc hfesc]
      exact (unescape_fesc_cons p p.tfesc r).trans (by rw [if_neg htfesc, if_pos rfl])
    · rw [escapeByte_of_ne hx hx']
      exact unescape_cons_of_ne hx' r

theorem fend_notMem_escapeByte (hnodup : [FEND, p.fesc, p.tfend, p.tfesc].Nodup) (x : Byte) :
    FEND ∉ escapeByte p x := by
  have hfend : FEND ∉ [p.fesc, p.tfend, p.tfesc] := (List.nodup_cons.1 hnodup).1
  simp only [List.mem_cons, List.not_mem_nil, or_false, not_or] at hfend
  obtain ⟨hfesc, htfend, htfesc⟩ := hfend
  unfold escapeByte
  split
  · simp [hfesc, htfend]
  · split
    · simp [hfesc, htfesc]
    · simpa using Ne.symm ‹x ≠ FEND›

/-! ### A field -/

theorem esc_cons_of_kiss (hkiss : p.escapeMode = .kiss) (x : Byte) (field : List Byte) :
    esc p (x :: field) = escapeByte p x ++ esc p field := by
  rw [esc_of_kiss hkiss, esc_of_kiss hkiss, List.flatMap_cons]

theorem unescape_esc (hwf : p.wf = true) (hkiss : p.escapeMode = .kiss) (field : List Byte) :
    unescape p (esc p field) = field := by
  induction field with
  | nil => rw [esc_of_kiss hkiss]; rfl
  | cons x field ih =>
    rw [esc_cons_of_kiss hkiss, unescape_escapeByte_append (Params.nodup_of_kiss hwf hkiss), ih]

theorem fend_notMem_esc (hwf : p.wf = true) (hkiss : p.escapeMode = .kiss) (field : List Byte) :
    FEND ∉ esc p field := by
  rw [esc_of_kiss hkiss, List.mem_flatMap]
  rintro ⟨x, -, hx⟩
  exact fend_notMem_escapeByte (Params.nodup_of_kiss hwf hkiss) x hx

end

/-- Settles O36: the codec byte by byte, and the induction over the sequence. -/
theorem unescapeInvertsEscape : Obligations.UnescapeInvertsEscape := by
  intro p s hwf
  refine ⟨fun hnone => esc_of_none hnone s, fun hkiss => ⟨?_, fun x => ?_, ?_, ?_⟩⟩
  · exact esc_of_kiss hkiss []
  · exact esc_cons_of_kiss hkiss x s
  · exact unescape_esc hwf hkiss s
  · exact fend_notMem_esc hwf hkiss s

end Sys2Proof.Machine
end

section
/-! Where the delimiters of a frame are (44_frame_encoder.md R163). -/

namespace Sys2Proof.Machine

/-- Between two delimiters no index holds `FEND` exactly where the bytes between them hold none. -/
theorem between_fends_iff (inner : List Byte) :
    (∀ i, 1 ≤ i → i < (FEND :: inner ++ [FEND]).length - 1 → (FEND :: inner ++ [FEND])[i]? ≠ some FEND) ↔
      FEND ∉ inner := by
  have hget {j : Nat} (hj : j < inner.length) : (FEND :: inner ++ [FEND])[j + 1]? = inner[j]? := by
    rw [List.cons_append, List.getElem?_cons_succ, List.getElem?_append_left hj]
  constructor
  · intro h hmem
    obtain ⟨j, hj, hend⟩ := List.mem_iff_getElem.1 hmem
    exact h (j + 1) (by omega) (by simpa using hj) ((hget hj).trans (List.getElem?_eq_some_iff.2 ⟨hj, hend⟩))
  · intro h i hi hlt hend
    obtain ⟨j, rfl⟩ := Nat.exists_eq_add_of_le' hi
    have hj : j < inner.length := by simpa using hlt
    exact h (List.mem_of_getElem? ((hget hj).symm.trans hend))

/-- The field of a frame stands, escaped, behind `0x00` and a marker with no delimiter in it. -/
def IsFrameOf (p : Params) (field f : List Byte) : Prop :=
  ∃ marker, FEND ∉ marker ∧ f = FEND :: (0x00#8 :: marker ++ esc p field) ++ [FEND]

theorem ackFrame_isFrameOf (p : Params) (c : Byte) : IsFrameOf p [c] (ackFrame p c) :=
  ⟨[0x41#8, 0x43#8, 0x4B#8], by decide, rfl⟩

theorem nackFrame_isFrameOf (p : Params) (c : Byte) : IsFrameOf p [c] (nackFrame p c) :=
  ⟨[0x4E#8, 0x41#8, 0x43#8, 0x4B#8], by decide, rfl⟩

theorem resFrame_isFrameOf (p : Params) (body : List Byte) : IsFrameOf p body (resFrame p body) :=
  ⟨[0x52#8, 0x45#8, 0x53#8], by decide, rfl⟩

theorem passFrame_isFrameOf (p : Params) (body : List Byte) : IsFrameOf p body (passFrame p 0x00#8 body) :=
  ⟨[], by decide, rfl⟩

theorem IsFrameOf.ends {p : Params} {field f : List Byte} (h : IsFrameOf p field f) :
    f[0]? = some FEND ∧ f[1]? = some 0x00#8 ∧ f[f.length - 1]? = some FEND := by
  obtain ⟨marker, -, rfl⟩ := h
  exact ⟨rfl, rfl, by rw [← List.getLast?_eq_getElem?]; exact List.getLast?_concat⟩

theorem IsFrameOf.no_inner_fend_iff {p : Params} {field f : List Byte} (h : IsFrameOf p field f) :
    (∀ i, 1 ≤ i → i < f.length - 1 → f[i]? ≠ some FEND) ↔ FEND ∉ esc p field := by
  obtain ⟨marker, hmarker, rfl⟩ := h
  have hcode : FEND ≠ 0x00#8 := by decide
  rw [between_fends_iff]
  simp [hmarker, hcode]

/-- Settles O53: the four builders share one shape, so their inner delimiters are those of the escaped field. -/
theorem framesHoldFendOnlyAtTheirEnds : Obligations.FramesHoldFendOnlyAtTheirEnds := by
  intro p c body f field hwf hf
  have hframe : IsFrameOf p field f := by
    obtain ⟨rfl, rfl⟩ | ⟨rfl, rfl⟩ | ⟨rfl, rfl⟩ | ⟨rfl, rfl⟩ := hf
    · exact ackFrame_isFrameOf p c
    · exact nackFrame_isFrameOf p c
    · exact resFrame_isFrameOf p field
    · exact passFrame_isFrameOf p field
  obtain ⟨hfirst, hcode, hlast⟩ := hframe.ends
  refine ⟨hfirst, hcode, hlast, fun hkiss => ?_, fun hnone => ?_⟩
  · exact hframe.no_inner_fend_iff.2 (fend_notMem_esc hwf hkiss field)
  · rw [hframe.no_inner_fend_iff, esc_of_none hnone]

end Sys2Proof.Machine
end

section
/-! The Frame Encoder: `Emit`, and what `ENC_ACK`, `ENC_NACK` and `ENC_RES` emit and answer (44_frame_encoder.md R155 to
R158, R162). -/

namespace Sys2Proof.Machine

/-! ### `Emit` -/

theorem State.afterFrame_of_fits {s : State} {f : List Byte} (h : s.fits f = true) :
    s.afterFrame f = { s with outBuf := s.outBuf ++ f, evlog := s.evlog ++ [.frame f] } := if_pos h

theorem State.afterFrame_of_not_fits {s : State} {f : List Byte} (h : s.fits f = false) :
    s.afterFrame f = { s with status := s.status ||| 0x10#8, evlog := s.evlog ++ [.dropped f] } :=
  if_neg (by simp [h])

theorem peek_append_left {q : List Byte} {i : Nat} (h : i < size q) (f : List Byte) : peek (q ++ f) i = peek q i := by
  simp only [peek, List.getElem?_append_left h]

theorem peek_append_right (q f : List Byte) (i : Nat) : peek (q ++ f) (size q + i) = peek f i := by
  simp only [peek, size, List.getElem?_append_right (Nat.le_add_right _ _), Nat.add_sub_cancel_left]

/-- Settles O54: a frame that fits and one that does not. -/
theorem emitAppendsAWholeFrameOrNothing : Obligations.EmitAppendsAWholeFrameOrNothing := by
  refine fun f s => ⟨fun hroom => ⟨s.outBuf ++ f, ?_, List.length_append, ?_, ?_⟩, fun hfull => ?_⟩
  · have hfits : s.fits f = true := decide_eq_true hroom
    rw [emit_eq, State.afterFrame_of_fits hfits, hfits]
  · exact fun i hi => peek_append_left hi f
  · exact fun i _ => peek_append_right s.outBuf f i
  · have hfits : s.fits f = false := decide_eq_false hfull.not_ge
    rw [emit_eq, State.afterFrame_of_not_fits hfits, hfits]

/-! ### The encode commands -/

/-- The end of an encode command: the result code says whether the frame fitted, and `DATA` is `d` either way. -/
theorem State.finish_afterFrame (s : State) (f : List Byte) (d : Half) :
    (s.afterFrame f).finish (if s.fits f then .ok else .overflow) d = { s.afterFrame f with
      result := if s.fits f then 0#4 else 5#4,
      responses := s.responses ++ [answer d (if s.fits f then 0#4 else 5#4)] } := by
  have hbits : (if s.fits f then ResultCode.ok else .overflow).bits = if s.fits f then 0#4 else 5#4 :=
    apply_ite ResultCode.bits _ _ _
  rw [State.finish, responseWord_eq_answer, hbits, State.afterFrame_responses]

/-- The count of draws has no part in an emission. -/
theorem State.afterFrame_setDraws (s : State) (n : Nat) (f : List Byte) :
    ({ s with draws := n } : State).afterFrame f = { s.afterFrame f with draws := n } := by
  cases h : s.fits f with
  | true => rw [State.afterFrame_of_fits h]; exact State.afterFrame_of_fits h
  | false => rw [State.afterFrame_of_not_fits h]; exact State.afterFrame_of_not_fits h

/-- Settles O50: both commands are one emission and its end. -/
theorem encAckAndEncNackEmitTheirFrames : Obligations.EncAckAndEncNackEmitTheirFrames := by
  intro c l s
  refine ⟨decodeOfEncodeIsTheInstruction (.encAck c l) rfl, decodeOfEncodeIsTheInstruction (.encNack c l) rfl, ?_, ?_⟩
  · rintro _ rfl
    rw [exec_encAck, State.finish_afterFrame]
    rfl
  · rintro _ rfl
    rw [exec_encNack, State.finish_afterFrame]
    rfl

/-- Settles O51: a frame whose length 16 bits can hold, a longer one, whose free `DATA` is a draw, and no command. -/
theorem encResEmitsTheLatchedBody : Obligations.EncResEmitsTheLatchedBody := by
  intro b l s f
  refine ⟨decodeOfEncodeIsTheInstruction (.encRes b l) rfl, fun hlatched => ?_, fun hempty => ?_⟩
  · by_cases hlen : f.length < 65536
    · refine ⟨half f.length, s.draws, fun _ => ⟨rfl, rfl⟩, ?_⟩
      rw [exec_encRes_of_narrow hlatched hlen, State.finish_afterFrame, ← s.afterFrame_draws f]
    · refine ⟨Config.wideFrameLength s.draws f.length, s.draws + 1, fun h => absurd h (by omega), ?_⟩
      have hend := ({ s with draws := s.draws + 1 } : State).finish_afterFrame f
        (Config.wideFrameLength s.draws f.length)
      rw [State.afterFrame_setDraws] at hend
      rw [exec_encRes_of_wide hlatched hlen, State.afterFrame_setDraws]
      exact congrArg _ hend
  · exact exec_encRes_of_empty hempty

end Sys2Proof.Machine
end

section
/-! The round trips of a frame: built, located and decoded (44_frame_encoder.md R159, R160). -/

namespace Sys2Proof.Machine

/-- `Locate()` takes the frame around a code and a raw body, neither with a delimiter, whole. -/
theorem locate_frame {c : Byte} {raw : List Byte} (hc : c ≠ FEND) (hraw : FEND ∉ raw) :
    locate (FEND :: c :: raw ++ [FEND]) = .ok (some (raw.length + 3), FEND :: c :: raw ++ [FEND]) :=
  locateRemovesOnlyGarbageAndSurplusFends.2 [] raw [] 0 c List.not_mem_nil hc hraw

/-- `DECODE` of a length within `IN`, where 16 bits can hold it, latches the code and the body that the raw body stands
for. -/
theorem exec_decode_latches {s : State} {n : Nat} {c : Byte} (b : Byte) (h2 : 2 ≤ n) (hn : n ≤ s.inBuf.length)
    (hsize : s.inBuf.length ≤ 65535) (hc : s.inBuf[1]? = some c) :
    ∃ t, exec (.decode b (half n)) s = .next t ∧ t.result = 0#4 ∧ t.flag .decValid = true ∧ t.decCode = c ∧
      t.decBody = decodeBody s.cfg ((s.inBuf.take (n - 1)).drop 2) ∧ t.inBuf = s.inBuf.drop n := by
  have hlen : (half n).toNat = n := half_toNat (by omega)
  have hdecode := exec_decode_of_good (b := b) (l := half n) (by rwa [hlen]) (by rwa [hlen]) hc
  rw [hlen] at hdecode
  exact ⟨_, hdecode, rfl, by simp, rfl, rfl, rfl⟩

/-- The raw body between a code and the delimiter behind it. -/
theorem raw_of_frame (c : Byte) (raw : List Byte) :
    ((FEND :: c :: raw ++ [FEND]).take (raw.length + 3 - 1)).drop 2 = raw := by
  simp

/-- A buffer that is one frame is located whole, decoded whole, and left empty. -/
theorem locate_decode_frame {s : State} {c : Byte} {raw : List Byte} (b : Byte) (hc : c ≠ FEND) (hraw : FEND ∉ raw)
    (hin : s.inBuf = FEND :: c :: raw ++ [FEND]) (hsize : s.inBuf.length ≤ 65535) :
    locate s.inBuf = .ok (some (raw.length + 3), s.inBuf) ∧
    ∃ t, exec (.decode b (half (raw.length + 3))) s = .next t ∧ t.result = 0#4 ∧ t.flag .decValid = true ∧
      t.decCode = c ∧ t.decBody = decodeBody s.cfg raw ∧ t.inBuf = [] := by
  have hlen : s.inBuf.length = raw.length + 3 := by simp [hin]
  refine ⟨by rw [hin]; exact locate_frame hc hraw, ?_⟩
  obtain ⟨t, hexec, hresult, hvalid, hcode, hbody, hleft⟩ :=
    exec_decode_latches (n := raw.length + 3) (c := c) b (by omega) hlen.ge hsize (by rw [hin]; rfl)
  refine ⟨t, hexec, hresult, hvalid, hcode, ?_, ?_⟩
  · rw [hbody, hin, raw_of_frame]
  · rw [hleft, List.drop_eq_nil_of_le hlen.le]

/-- Settles O55: the escaped body holds no delimiter, so the frame is located whole, and unescaping gives the body. -/
theorem kissFrameRoundTripsThroughLocateAndDecode : Obligations.KissFrameRoundTripsThroughLocateAndDecode := by
  intro b body s hwf hkiss hin hsize
  have hlen : s.inBuf.length = (esc s.cfg body).length + 3 := by rw [hin, passFrame_length]
  obtain ⟨hlocate, t, hexec, hresult, hvalid, hcode, hbody, hleft⟩ :=
    locate_decode_frame b (by decide) (fend_notMem_esc hwf hkiss body) hin hsize
  rw [hlen]
  refine ⟨hlocate, t, hexec, hresult, hvalid, hcode, ?_, hleft⟩
  rw [hbody, decodeBody_of_kiss hkiss, unescape_esc hwf hkiss]

/-- A frame found is its two delimiters, the code behind the first, and the raw body between. -/
theorem take_of_located {q q' : List Byte} {n : Nat} {c : Byte} (h : located q = (some n, q')) (hc : q'[1]? = some c) :
    q'.take n = FEND :: c :: (q'.take (n - 1)).drop 2 ++ [FEND] := by
  obtain ⟨h3, hn, hfirst, hlast⟩ := located_found h
  obtain ⟨k, rfl⟩ := Nat.exists_eq_add_of_le' h3
  have hsplit : q'.take (k + 3) = q'.take (k + 2) ++ [FEND] := by
    rw [List.take_add_one]
    exact congrArg (q'.take (k + 2) ++ ·) (congrArg Option.toList hlast)
  match q', hfirst, hc with
  | x :: y :: r, hfirst, hc =>
    obtain rfl : x = FEND := by simpa using hfirst
    obtain rfl : y = c := by simpa using hc
    exact hsplit

/-- Without escaping, the marker and the payload of a data Response stand between its code and its last delimiter. -/
theorem resFrame_eq_of_none {p : Params} (h : p.escapeMode = .none) (payload : List Byte) :
    resFrame p payload = FEND :: 0x00#8 :: (0x52#8 :: 0x45#8 :: 0x53#8 :: payload) ++ [FEND] := by
  rw [resFrame, esc_of_none h]
  rfl

/-- Settles O56: a frame found is made of what is latched of it; and a data Response without escaping is one frame. -/
theorem unescapedFramesRoundTrip : Obligations.UnescapedFramesRoundTrip := by
  intro b s hnone hsize
  refine ⟨fun q n hlocate => ?_, fun payload hpayload hin => ?_⟩
  · have hq : located s.inBuf = (some n, q) := by simpa [locate_eq] using hlocate
    obtain ⟨h3, hn, -, -⟩ := located_found hq
    have hle : q.length ≤ s.inBuf.length := (suffix_of_located hq).length_le
    have hc : q[1]? = some q[1] := List.getElem?_eq_getElem _
    obtain ⟨t, hexec, -, hvalid, hcode, hbody, -⟩ :=
      exec_decode_latches (s := { s with inBuf := q }) b (by omega) hn (hle.trans hsize) hc
    refine ⟨t, hexec, hvalid, ?_⟩
    rw [hcode, hbody, decodeBody_of_none hnone, take_of_located hq hc, passFrame, esc_of_none hnone]
    rfl
  · have hraw : FEND ∉ 0x52#8 :: 0x45#8 :: 0x53#8 :: payload := by
      simpa [hpayload] using (by decide : FEND ∉ [0x52#8, 0x45#8, 0x53#8])
    obtain ⟨hlocate, t, hexec, -, hvalid, hcode, hbody, -⟩ :=
      locate_decode_frame b (by decide) hraw (hin.trans (resFrame_eq_of_none hnone payload)) hsize
    exact ⟨hlocate, t, hexec, hvalid, hcode, hbody.trans (decodeBody_of_none hnone _)⟩

end Sys2Proof.Machine
end

section
/-! The control commands: `NOP`, `READ`, `READ_BODY`, `CLEAR_STATUS` and the reserved words (45_poll_and_control.md R167
to R172), and which commands write `RESULT` (R173). -/

namespace Sys2Proof.Machine

/-! ### What the control commands leave -/

/-- A refusal as an update of the fields it writes. -/
theorem State.refuseIllegal_eq (s : State) : s.refuseIllegal = { s with
    status := s.status ||| 0x20#8, result := 6#4, responses := s.responses ++ [0x00000006#32] } := rfl

/-- The four masks of the sticky bits as one. -/
theorem withStatusBit_clear_sticky (st : Byte) :
    withStatusBit (withStatusBit (withStatusBit (withStatusBit st .malformed false) .inOvf false) .outOvf false)
      .illegal false = st &&& 0xC3#8 := by
  calc _ = st &&& 0xFB#8 &&& 0xF7#8 &&& 0xEF#8 &&& 0xDF#8 := rfl
    _ = st &&& (0xFB#8 &&& 0xF7#8 &&& 0xEF#8 &&& 0xDF#8) := by simp only [BitVec.and_assoc]

/-- `CFG_MODE`, zero-extended, says whether the mode is KISS (10_state.md R22). -/
theorem State.cfgMode_setWidth (s : State) :
    s.cfgMode.setWidth 16 = if s.cfg.escapeMode = .kiss then 1#16 else 0#16 := by
  unfold State.cfgMode
  cases s.cfg.escapeMode <;> rfl

/-- The registers `READ` reaches, in the order of their numbers (30_encoding.md R72). -/
def State.registers (s : State) : List Half :=
  [s.status.setWidth 16, s.result.setWidth 16, s.locLen, s.decCode.setWidth 16, half s.decBody.length,
    half s.inBuf.length, half s.outBuf.length, s.dispKind.setWidth 16, s.cfg.inCap, s.cfg.outCap,
    s.cfg.maxCommandSize, if s.cfg.escapeMode = .kiss then 1#16 else 0#16]

/-- A register number is an index into the registers, and a reserved number is past their end (R73). -/
theorem readRegister_eq_getElem? (s : State) (b : Byte) : readRegister s b = s.registers[b.toNat]? := by
  unfold readRegister State.registers
  rw [State.cfgMode_setWidth]
  generalize b.toNat = n
  match n with
  | 0 | 1 | 2 | 3 | 4 | 5 | 6 | 7 | 8 | 9 | 10 | 11 => rfl
  | n + 12 => rfl

/-! ### The statements -/

/-- Settles O17: `NOP` answers and nothing else. -/
theorem nopOnlyReturnsOk : Obligations.NopOnlyReturnsOk :=
  fun b l _ => ⟨decodeOfEncodeIsTheInstruction (.nop b l) rfl, rfl⟩

/-- Settles O18: a number below `0x0C` reads a register, any other is refused. -/
theorem readReturnsTheNumberedRegister : Obligations.ReadReturnsTheNumberedRegister := by
  intro b l s _ _ _
  refine ⟨decodeOfEncodeIsTheInstruction (.read b l) rfl, fun v hv => ?_, fun hreserved => ?_⟩
  · exact exec_read_of_some ((readRegister_eq_getElem? s b).trans hv)
  · have hnone : readRegister s b = none := (readRegister_eq_getElem? s b).trans (List.getElem?_eq_none hreserved)
    rw [exec_read_of_none hnone, State.refuseIllegal_eq]

/-- Settles O19: an index within the latched body, and one past it. -/
theorem readBodyReturnsTheIndexedByte : Obligations.ReadBodyReturnsTheIndexedByte := by
  intro b l s
  refine ⟨decodeOfEncodeIsTheInstruction (.readBody b l) rfl, fun x hx => ?_, fun hpast => ?_⟩
  · exact exec_readBody_of_some hx
  · rw [exec_readBody_of_none (List.getElem?_eq_none hpast), State.refuseIllegal_eq]

/-- Settles O20: the four sticky bits are the mask's zeros. -/
theorem clearStatusClearsTheStickyBits : Obligations.ClearStatusClearsTheStickyBits := by
  intro b l s
  refine ⟨decodeOfEncodeIsTheInstruction (.clearStatus b l) rfl, ?_⟩
  rw [← withStatusBit_clear_sticky]
  rfl

/-- Settles O21: the three rows have the one refusal as their meaning. -/
theorem reservedWordsAreRefused : Obligations.ReservedWordsAreRefused := by
  intro i b l op rsv s hi
  have hreserved : i.IsReserved :=
    hi.imp (⟨b, l, ·⟩) (Or.imp (⟨b, l, ·⟩) (⟨op, rsv, b, l, ·⟩))
  rw [exec_of_isReserved hreserved, State.refuseIllegal_eq]

/-! ### Which commands write `RESULT` -/

/-- `i` ends in `finish`, after work that returns no response word of its own (00_scope.md R15). -/
def Finishes (i : Instr) (s : State) : Prop :=
  ∃ (u : State) (c : ResultCode) (d : Half), exec i s = .next (u.finish c d) ∧ u.responses = s.responses

/-- A command that ends in `finish` writes `RESULT` with the code it answers. -/
theorem Finishes.result_eq_answer {i : Instr} {s : State} (h : Finishes i s) :
    ∃ (t : State) (data : Half) (res : Nibble), exec i s = .next t ∧ t.responses = s.responses ++ [answer data res] ∧
      t.result = res := by
  obtain ⟨u, c, d, hexec, hresp⟩ := h
  exact ⟨_, d, c.bits, hexec, by rw [State.finish_responses, hresp, responseWord_eq_answer], rfl⟩

/-- `i` answers a value and writes nothing, or is refused (R168, R169). -/
def ReadsOrRefuses (i : Instr) (s : State) : Prop :=
  (∃ v, exec i s = .next (s.respond .ok v)) ∨ exec i s = .next s.refuseIllegal

/-- A read writes `RESULT` only where it is refused. -/
theorem ReadsOrRefuses.result_eq {i : Instr} {s : State} (h : ReadsOrRefuses i s) :
    ∃ (t : State) (data : Half) (res : Nibble), exec i s = .next t ∧ t.responses = s.responses ++ [answer data res] ∧
      ((res = 0#4 ∧ t.result = s.result) ∨ (res = 6#4 ∧ t.result = 6#4)) := by
  obtain ⟨v, hexec⟩ | hexec := h
  · exact ⟨_, _, _, hexec, rfl, .inl ⟨rfl, rfl⟩⟩
  · exact ⟨_, _, _, hexec, rfl, .inr ⟨rfl, rfl⟩⟩

/-- A frame found has a code behind its first delimiter. -/
theorem exists_code_of_located {q q' : List Byte} {n : Nat} (h : located q = (some n, q')) : ∃ c, q'[1]? = some c := by
  obtain ⟨h3, hn, -, -⟩ := located_found h
  exact ⟨q'[1], List.getElem?_eq_getElem _⟩

section

variable (s : State) (b : Byte) (l : Half)

theorem pushIn_finishes : Finishes (.pushIn b l) s := by
  by_cases h : s.inBuf.length < s.cfg.inCap.toNat
  · exact ⟨_, _, _, exec_pushIn_of_room h, rfl⟩
  · exact ⟨_, _, _, exec_pushIn_of_full h, rfl⟩

theorem popOut_finishes : Finishes (.popOut b l) s := by
  cases h : s.outBuf with
  | nil => exact ⟨_, _, _, exec_popOut_of_nil h, rfl⟩
  | cons x rest => exact ⟨_, _, _, exec_popOut_of_cons h, rfl⟩

theorem locate_finishes : Finishes (.locate b l) s := by
  rcases h : located s.inBuf with ⟨_ | n, q⟩
  · exact ⟨_, _, _, exec_locate_of_none h, rfl⟩
  · exact ⟨_, _, _, exec_locate_of_found h, rfl⟩

theorem decode_finishes : Finishes (.decode b l) s := by
  by_cases h : l.toNat < 2 ∨ s.inBuf.length < l.toNat
  · exact ⟨_, _, _, exec_decode_of_bad h, rfl⟩
  · obtain ⟨h2, hl⟩ : 2 ≤ l.toNat ∧ l.toNat ≤ s.inBuf.length := by omega
    have hc : s.inBuf[1]? = some s.inBuf[1] := List.getElem?_eq_getElem _
    exact ⟨_, _, _, exec_decode_of_good h2 hl hc, rfl⟩

theorem dispatch_finishes : Finishes (.dispatch b l) s := by
  cases h : s.flag .decValid with
  | false => exact ⟨_, _, _, exec_dispatch_of_empty h, rfl⟩
  | true => exact ⟨_, _, _, exec_dispatch_of_latched h, entryRun_responses _ _ _ _⟩

theorem encRes_finishes : Finishes (.encRes b l) s := by
  cases h : s.flag .decValid with
  | false => exact ⟨_, _, _, exec_encRes_of_empty h, rfl⟩
  | true =>
    by_cases hf : (resFrame s.cfg s.decBody).length < 65536
    · exact ⟨_, _, _, exec_encRes_of_narrow h hf, State.afterFrame_responses _ _⟩
    · exact ⟨_, _, _, exec_encRes_of_wide h hf, State.afterFrame_responses _ _⟩

theorem poll_finishes : Finishes (.poll b l) s := by
  cases h : s.flag .decValid with
  | true => exact ⟨_, _, _, exec_poll_of_latched h, entryRun_responses _ _ _ _⟩
  | false =>
    rcases hq : located s.inBuf with ⟨_ | n, q⟩
    · exact ⟨_, _, _, exec_poll_of_none h hq, rfl⟩
    · obtain ⟨c, hc⟩ := exists_code_of_located hq
      exact ⟨_, _, _, exec_poll_of_found h hq hc, entryRun_responses _ _ _ _⟩

theorem read_readsOrRefuses : ReadsOrRefuses (.read b l) s := by
  cases h : readRegister s b with
  | none => exact .inr (exec_read_of_none h)
  | some v => exact .inl ⟨v, exec_read_of_some h⟩

theorem readBody_readsOrRefuses : ReadsOrRefuses (.readBody b l) s := by
  cases h : s.decBody[l.toNat]? with
  | none => exact .inr (exec_readBody_of_none h)
  | some x => exact .inl ⟨_, exec_readBody_of_some h⟩

end

/-- Settles O23: command by command. Every command but `NOP` and the reads ends in `finish`, a refusal included; the wire
commands are no command word's meaning. -/
theorem resultIsWrittenByAllButSuccessfulReads : Obligations.ResultIsWrittenByAllButSuccessfulReads := by
  intro w s
  obtain ⟨v, hword⟩ := encode_decode_word_isWord w
  generalize decode (.word w) = i at hword ⊢
  cases i with
  | nop => exact ⟨_, _, _, rfl, rfl, rfl, rfl⟩
  | read b l => exact (read_readsOrRefuses s b l).result_eq
  | readBody b l => exact (readBody_readsOrRefuses s b l).result_eq
  | reservedOpE | reservedOpF | reservedRsv => exact ⟨_, _, _, rfl, rfl, rfl, rfl⟩
  | pushIn b l => exact (pushIn_finishes s b l).result_eq_answer
  | popOut b l => exact (popOut_finishes s b l).result_eq_answer
  | dropIn b l => exact Finishes.result_eq_answer ⟨_, _, _, exec_dropIn, rfl⟩
  | locate b l => exact (locate_finishes s b l).result_eq_answer
  | decode b l => exact (decode_finishes s b l).result_eq_answer
  | dispatch b l => exact (dispatch_finishes s b l).result_eq_answer
  | encAck b l => exact Finishes.result_eq_answer ⟨_, _, _, exec_encAck, s.afterFrame_responses _⟩
  | encNack b l => exact Finishes.result_eq_answer ⟨_, _, _, exec_encNack, s.afterFrame_responses _⟩
  | encRes b l => exact (encRes_finishes s b l).result_eq_answer
  | poll b l => exact (poll_finishes s b l).result_eq_answer
  | clearStatus => exact ⟨_, _, _, rfl, rfl, rfl⟩
  | codePassThrough | codeBeacon | codeDeployAntenna | codeReportStatus | codeHaltRadio | codeUnrecognized => cases hword

end Sys2Proof.Machine
end

section
/-! `POLL` by its three cases: a command latched, a frame found, and neither (45_poll_and_control.md R165, R166, R174). -/

namespace Sys2Proof.Machine

/-! ### A dispatched command reads neither `RESULT` nor the responses -/

/-- The state with what it last reported to the host replaced: `RESULT` and the response words. -/
def State.withReport (s : State) (r : Nibble) (ws : List Word) : State := { s with result := r, responses := ws }

section

variable (s : State) (r : Nibble) (ws : List Word)

theorem State.withReport_self : s.withReport s.result s.responses = s := rfl

theorem State.afterFrame_withReport (f : List Byte) :
    (s.withReport r ws).afterFrame f = (s.afterFrame f).withReport r ws := by
  cases h : s.fits f with
  | true => rw [State.afterFrame_of_fits h]; exact State.afterFrame_of_fits h
  | false => rw [State.afterFrame_of_not_fits h]; exact State.afterFrame_of_not_fits h

theorem State.afterText_withReport : (s.withReport r ws).afterText = s.afterText.withReport r ws := by
  unfold State.afterText State.withReport
  cases s.answers <;> rfl

theorem request_withReport (a : Action) (body : List Byte) :
    request a body (s.withReport r ws) = ((request a body s).1, (request a body s).2.withReport r ws) := by
  cases a with
  | beacon | haltRadio => rfl
  | deployAntenna | reportStatus => simp only [request, capDeploy, capReportStatus, State.afterText_withReport]; rfl

theorem afterRequest_withReport (x : Option (List Byte)) (d : Bool) :
    afterRequest (x, s.withReport r ws) d = ((afterRequest (x, s) d).1.withReport r ws, (afterRequest (x, s) d).2) := by
  cases x with
  | none => rfl
  | some text => simp only [afterRequest, State.afterFrame_withReport]; rfl

/-- An entry's arm carries the report along. -/
theorem entryRun_withReport (e : Descriptor) (c : Byte) (body : List Byte) :
    entryRun e c body (s.withReport r ws) = ((entryRun e c body s).1.withReport r ws, (entryRun e c body s).2) := by
  cases e with
  | passThrough | unknown => simp only [entryRun, State.afterFrame_withReport]; rfl
  | ackThenAction a p =>
    simp only [entryRun, State.afterFrame_withReport, request_withReport, afterRequest_withReport]
    rfl

/-- What the entry the latched command selects leaves, with the latch discarded first, and whether it dropped a frame. -/
def State.latchRun : State × Bool := entryRun (lookupCode s.decCode) s.decCode s.decBody s.discardLatch

theorem State.latchRun_withReport :
    (s.withReport r ws).latchRun = (s.latchRun.1.withReport r ws, s.latchRun.2) :=
  entryRun_withReport s.discardLatch r ws _ _ _

/-- Consuming the latched command is the run of its entry and the report of it. -/
theorem State.latchFinished_eq (d : Half) :
    s.latchFinished d = s.latchRun.1.withReport (entryResult (lookupCode s.decCode) s.latchRun.2).bits
      (s.responses ++ [answer d (entryResult (lookupCode s.decCode) s.latchRun.2).bits]) :=
  congrArg (s.latchRun.1.withReport _ <| · ++ _) (entryRun_responses _ _ _ s.discardLatch)

/-- Consuming the latched command after a different report, and with different `DATA`, leaves the same state but for the
response words. -/
theorem State.latchFinished_withReport (d d' : Half) :
    s.latchFinished d = { (s.withReport r ws).latchFinished d' with
      responses := s.responses ++ [answer d ((s.withReport r ws).latchFinished d').result] } := by
  rw [State.latchFinished_eq, State.latchFinished_eq (s.withReport r ws), State.latchRun_withReport]
  rfl

end

/-! ### What a dispatched command leaves of the other registers -/

@[simp] theorem State.afterText_latch (s : State) : s.afterText.locLen = s.locLen ∧ s.afterText.decCode = s.decCode ∧
    s.afterText.decBody = s.decBody := by
  rw [State.afterText_frame]
  exact ⟨rfl, rfl, rfl⟩

@[simp] theorem request_latch (a : Action) (body : List Byte) (s : State) :
    (request a body s).2.locLen = s.locLen ∧ (request a body s).2.decCode = s.decCode ∧
      (request a body s).2.decBody = s.decBody := by
  cases a with
  | beacon | haltRadio => exact ⟨rfl, rfl, rfl⟩
  | deployAntenna | reportStatus => exact s.afterText_latch

@[simp] theorem afterRequest_latch (x : Option (List Byte) × State) (d : Bool) :
    (afterRequest x d).1.locLen = x.2.locLen ∧ (afterRequest x d).1.decCode = x.2.decCode ∧
      (afterRequest x d).1.decBody = x.2.decBody := by
  rcases x with ⟨_ | text, s⟩ <;> simp [afterRequest]

/-- An entry's arm writes neither `LOC_LEN` nor the latch. -/
theorem entryRun_latch (e : Descriptor) (c : Byte) (body : List Byte) (s : State) :
    (entryRun e c body s).1.locLen = s.locLen ∧ (entryRun e c body s).1.decCode = s.decCode ∧
      (entryRun e c body s).1.decBody = s.decBody := by
  cases e <;> simp [entryRun]

theorem State.latchFinished_locLen (s : State) (d : Half) : (s.latchFinished d).locLen = s.locLen :=
  (entryRun_latch _ _ _ s.discardLatch).1

/-- Consuming the latched command empties the latch (43_command_dispatcher.md R132). -/
theorem State.latchFinished_emptyLatch (s : State) (d : Half) : (s.latchFinished d).flag .decValid = false ∧
    (s.latchFinished d).decBody = [] ∧ (s.latchFinished d).decCode = 0x00#8 := by
  obtain ⟨-, hcode, hbody⟩ := entryRun_latch (lookupCode s.decCode) s.decCode s.decBody s.discardLatch
  have hflag : (s.latchFinished d).flag .decValid = s.discardLatch.flag .decValid :=
    entryRun_flag _ _ _ _ (by decide)
  exact ⟨by simp [hflag], hbody, hcode⟩

/-- A command that is consumed is answered `OK`, `UNRECOGNIZED` or `OVERFLOW` (R145). -/
theorem State.latchFinished_result (s : State) (d : Half) : (s.latchFinished d).result = 0#4 ∨
    (s.latchFinished d).result = 3#4 ∨ (s.latchFinished d).result = 5#4 := by
  have hresult : (s.latchFinished d).result =
      if s.latchRun.2 then 5#4 else if s.decCode ∈ recognizedCodes then 0#4 else 3#4 :=
    entryResult_lookupCode_bits s.decCode s.latchRun.2
  rw [hresult]
  split_ifs <;> simp

/-! ### `LOCATE` and `DECODE` in `POLL` -/

theorem located_of_locate {q q' : List Byte} {r : Option Nat} (h : locate q = .ok (r, q')) : located q = (r, q') :=
  Except.ok.inj ((locate_eq q).symm.trans h)

/-- Setting a bit does not outlast its clearing. -/
theorem withStatusBit_true_false (st : Byte) (f : StatusBit) :
    withStatusBit (withStatusBit st f true) f false = withStatusBit st f false := by
  have hmask (m : Byte) : (st ||| m) &&& ~~~m = st &&& ~~~m := by
    ext i hi
    cases h : m[i] <;> simp [h]
  exact hmask _

/-- A frame recorded by `LOCATE` is decoded to the same state but for the report: decoding clears the record (R124). -/
theorem State.decoded_located (s : State) (m n : Nat) (c : Byte) (code : ResultCode) (d : Half) :
    ((s.setLocated m).finish code d).decoded n c =
      (s.decoded n c).withReport code.bits (s.responses ++ [responseWord code d]) := by
  simp only [State.decoded, State.clearLocated_fillLatch, State.withReport]
  have hstatus := withStatusBit_true_false s.status .locValid
  simp only [State.clearLocated, State.fillLatch, State.setLocated, State.finish, hstatus]

/-! ### How a `POLL` ends -/

/-- What a `POLL` of `s` answers, and what it leaves of the latch (R165, 60_exceptions.md R181). -/
structure PollEnd (s t : State) : Prop where
  result : t.result = 0#4 ∨ t.result = 1#4 ∨ t.result = 3#4 ∨ t.result = 5#4
  decValid : t.flag .decValid = false
  latch : s.flag .decValid = true ∨ (s.decBody = [] ∧ s.decCode = 0x00#8) → t.decBody = [] ∧ t.decCode = 0x00#8

/-- A `POLL` that consumes a command, latched before it or by it, ends with the answer of that command. -/
theorem pollEnd_latchFinished (s u : State) (d : Half) : PollEnd s (u.latchFinished d) := by
  obtain ⟨hvalid, hlatch⟩ := u.latchFinished_emptyLatch d
  exact ⟨(u.latchFinished_result d).imp_right .inr, hvalid, fun _ => hlatch⟩

/-- A `POLL` that finds nothing to do answers `NONE` and leaves the latch as it was. -/
theorem pollEnd_none {s : State} (h : s.flag .decValid = false) (q : List Byte) :
    PollEnd s (({ s with inBuf := q } : State).clearLocated.finish .none 0#16) where
  result := .inr (.inl rfl)
  decValid := by simp [h]
  latch hs := hs.resolve_left (by simp [h])

theorem pollEnd_of_exec {s t : State} {b : Byte} {l : Half} (hexec : exec (.poll b l) s = .next t) : PollEnd s t := by
  cases h : s.flag .decValid with
  | true =>
    cases (exec_poll_of_latched h).symm.trans hexec
    exact pollEnd_latchFinished s s _
  | false =>
    rcases hq : located s.inBuf with ⟨_ | n, q⟩
    · cases (exec_poll_of_none h hq).symm.trans hexec
      exact pollEnd_none h q
    · obtain ⟨c, hc⟩ := exists_code_of_located hq
      cases (exec_poll_of_found h hq hc).symm.trans hexec
      exact pollEnd_latchFinished s _ _

/-! ### The statements -/

/-- Settles O57: both commands consume the latched command, with different `DATA`. -/
theorem pollDispatchesALatchedCommandFirst : Obligations.PollDispatchesALatchedCommandFirst := by
  intro b b' l l' s h
  refine ⟨_, exec_dispatch_of_latched h, s.latchFinished_inBuf _, s.latchFinished_locLen _, ?_⟩
  have hreport := s.latchFinished_withReport s.result s.responses 0#16 (zext16 s.decCode)
  rw [State.withReport_self] at hreport
  rw [exec_poll_of_latched h, hreport]

/-- Settles O58: the equation of a `POLL` that finds nothing to do. -/
theorem pollWithoutAFrameAnswersNone : Obligations.PollWithoutAFrameAnswersNone := by
  intro b l s q h hlocate
  have hq := located_of_locate hlocate
  exact exec_poll_of_none h hq

/-- Settles O59: after `LOCATE`, `DECODE` latches what `POLL` latches, and only the report differs when the latched command
is consumed. -/
theorem pollIsLocateThenDecodeThenDispatch : Obligations.PollIsLocateThenDecodeThenDispatch := by
  intro b l s h hsize
  refine ⟨fun q n hlocate => ?_, fun q hlocate => ?_⟩
  · have hq := located_of_locate hlocate
    obtain ⟨h3, hn, -, -⟩ := located_found hq
    obtain ⟨c, hc⟩ := exists_code_of_located hq
    have hle : q.length ≤ s.inBuf.length := (suffix_of_located hq).length_le
    have hlen : (half n).toNat = n := half_toNat (by omega)
    have hdecode := exec_decode_of_good (s := (({ s with inBuf := q } : State).setLocated n).finish .ok (half n))
      (b := b) (l := half n) (by omega) (by rw [hlen]; exact hn) hc
    rw [hlen, State.decoded_located] at hdecode
    refine ⟨_, _, _, _, exec_locate_of_found hq, hdecode, exec_dispatch_of_latched ?_, exec_poll_of_found h hq hc, ?_⟩
    · exact (({ s with inBuf := q } : State).flag_decoded n c .decValid)
    · exact State.latchFinished_withReport _ _ _ (half n) _
  · have hq := located_of_locate hlocate
    rw [exec_poll_of_none h hq, exec_locate_of_none hq]

/-- Settles O60: what a `POLL` answers and leaves of the latch, and that it leaves `MALFORMED`. -/
theorem pollNeverAnswersMalformedOrNoCommand : Obligations.PollNeverAnswersMalformedOrNoCommand := by
  intro b l s
  obtain ⟨t, hexec, -⟩ := poll_effect s b l
  obtain ⟨hresult, hvalid, hlatch⟩ := pollEnd_of_exec hexec
  exact ⟨t, hexec, hresult, poll_flag_malformed hexec, hvalid, hlatch⟩

end Sys2Proof.Machine
end

section
/-! No step faults, and the block at rest (60_exceptions.md R186, 70_reset_and_hazards.md R196). -/

namespace Sys2Proof.Machine

/-- Settles O7: the arm of `step` where the host's list is exhausted. -/
theorem idleBlockHoldsItsState : Obligations.IdleBlockHoldsItsState := by
  intro s hfault hfetch
  simp only [step, hfault, hfetch]

/-- Settles O9: at rest and at a reset no primitive is called, and a command completes with one of the updates of `Effect`,
none of which records a fault. -/
theorem noStepReachesAModelFault : Obligations.NoStepReachesAModelFault := by
  intro s hfault
  cases hfetch : fetch s with
  | none => exact ⟨s, idleBlockHoldsItsState s hfault hfetch, hfault⟩
  | some e =>
    cases e with
    | reset => exact ⟨_, step_of_reset hfault hfetch, hfault⟩
    | command w =>
      obtain ⟨u, hexec, heff⟩ := exec_completes (decode (.word w)) s
      obtain ⟨-, -, hkeep⟩ := heff.run_eq
      exact ⟨_, step_of_command hfault hfetch hexec, hkeep.trans hfault⟩

end Sys2Proof.Machine
end

section
/-! The sticky bits of `STATUS`: set only with an error, kept until `CLEAR_STATUS` or reset (60_exceptions.md R183). -/

namespace Sys2Proof.Machine

theorem mem_stickyBits_iff (f : StatusBit) :
    f ∈ stickyBits ↔ f = .malformed ∨ f = .inOvf ∨ f = .outOvf ∨ f = .illegal := by
  simp [stickyBits]

/-- The live bits, which most commands write, are not sticky (10_state.md R23). -/
theorem ne_live_of_sticky {f : StatusBit} (hf : f ∈ stickyBits) : f ≠ .locValid ∧ f ≠ .decValid := by
  constructor <;> rintro rfl <;> exact absurd hf (by decide)

/-- Setting a bit clears none. -/
theorem State.flag_setFlag_true_of_set {s : State} {f : StatusBit} (g : StatusBit) (hset : s.flag f = true) :
    (s.setFlag g true).flag f = true := by
  rw [State.flag_setFlag, hset, ite_self]

/-- `StickyRule s t`: from `s` to `t` no sticky bit is cleared, and one that is set comes with `MALFORMED`, `OVERFLOW` or
`ILLEGAL` in `RESULT`. -/
structure StickyRule (s t : State) : Prop where
  kept : ∀ f ∈ stickyBits, s.flag f = true → t.flag f = true
  raised : ∀ f ∈ stickyBits, s.flag f = false → t.flag f = true → t.result = 2#4 ∨ t.result = 5#4 ∨ t.result = 6#4

namespace StickyRule

variable {s s' t : State} {evs : List Event}

theorem of_flag_eq (h : ∀ f ∈ stickyBits, t.flag f = s.flag f) : StickyRule s t where
  kept f hf hs := (h f hf).trans hs
  raised f hf hs ht := by rw [h f hf, hs] at ht; cases ht

/-- An error may set any bit and clears none. -/
theorem of_error (hres : t.result = 2#4 ∨ t.result = 5#4 ∨ t.result = 6#4)
    (hkept : ∀ f ∈ stickyBits, s.flag f = true → t.flag f = true) : StickyRule s t :=
  ⟨hkept, fun _ _ _ _ => hres⟩

/-- Of the state before, the rule reads the sticky bits only. -/
theorem congr_left (h : StickyRule s' t) (hs : ∀ f ∈ stickyBits, s'.flag f = s.flag f) : StickyRule s t where
  kept f hf hset := h.kept f hf ((hs f hf).trans hset)
  raised f hf hclear := h.raised f hf ((hs f hf).trans hclear)

/-- Emissions meet the rule if a dropped frame is answered `OVERFLOW` (44_frame_encoder.md R155, R157). -/
theorem of_logs (h : Logs s evs t) (hres : evs.any Event.isDrop = true → t.result = 5#4) : StickyRule s t := by
  have hstatus := h.status
  cases hdrop : evs.any Event.isDrop with
  | false =>
    rw [hdrop, if_neg Bool.false_ne_true] at hstatus
    exact of_flag_eq fun f _ => congrArg (statusBit · f) hstatus
  | true =>
    rw [hdrop, if_pos rfl] at hstatus
    refine of_error (.inr (.inl (hres hdrop))) fun f _ hset => ?_
    have hflag : t.flag f = (s.setFlag .outOvf true).flag f := congrArg (statusBit · f) hstatus
    exact hflag.trans (State.flag_setFlag_true_of_set .outOvf hset)

theorem refuseIllegal (s : State) : StickyRule s s.refuseIllegal :=
  of_error (.inr (.inr rfl)) fun _ _ hset => State.flag_setFlag_true_of_set .illegal hset

/-- An encode command's frame, emitted or dropped. -/
theorem emitted (s : State) (f : List Byte) (d : Half) :
    StickyRule s ((s.afterFrame f).finish (if s.fits f then .ok else .overflow) d) := by
  have hlogs : Logs s [s.emission f] ((s.afterFrame f).finish (if s.fits f then .ok else .overflow) d) :=
    { Logs.afterFrame s f with }
  refine of_logs hlogs fun hdrop => ?_
  have hfit : s.fits f = false := by simpa using hdrop
  rw [hfit]
  rfl

/-- The entry of a wire command answers `OVERFLOW` if one of its frames is dropped (43_command_dispatcher.md R145). -/
theorem entryFinished (s : State) (e : Descriptor) (c : Byte) (body : List Byte) (d : Half) :
    StickyRule s (s.entryFinished e c body d) :=
  of_logs (s.entryFinished_logs e c body d) fun hdrop => by
    rw [← entryRun_dropped] at hdrop
    simp [State.entryFinished, entryResult, hdrop, ResultCode.bits]

theorem latchFinished (s : State) (d : Half) : StickyRule s (s.latchFinished d) :=
  (entryFinished s.discardLatch _ _ _ d).congr_left fun f hf => by simp [ne_live_of_sticky hf]

end StickyRule

/-! ### What each command does to the sticky bits -/

section

variable {s t : State} {b : Byte} {l : Half}

theorem pushIn_sticky (h : exec (.pushIn b l) s = .next t) : StickyRule s t := by
  by_cases hroom : s.inBuf.length < s.cfg.inCap.toNat
  · cases (exec_pushIn_of_room hroom).symm.trans h
    exact .of_flag_eq fun _ _ => rfl
  · cases (exec_pushIn_of_full hroom).symm.trans h
    exact .of_error (.inr (.inl rfl)) fun _ _ hset => State.flag_setFlag_true_of_set .inOvf hset

theorem popOut_sticky (h : exec (.popOut b l) s = .next t) : StickyRule s t := by
  cases hout : s.outBuf with
  | nil => cases (exec_popOut_of_nil hout).symm.trans h; exact .of_flag_eq fun _ _ => rfl
  | cons x rest => cases (exec_popOut_of_cons hout).symm.trans h; exact .of_flag_eq fun _ _ => rfl

theorem dropIn_sticky (h : exec (.dropIn b l) s = .next t) : StickyRule s t := by
  cases exec_dropIn.symm.trans h
  exact .of_flag_eq fun f hf => by simp [ne_live_of_sticky hf]

theorem locate_sticky (h : exec (.locate b l) s = .next t) : StickyRule s t := by
  rcases hq : located s.inBuf with ⟨_ | n, q⟩
  · cases (exec_locate_of_none hq).symm.trans h
    exact .of_flag_eq fun f hf => by simp [ne_live_of_sticky hf]
  · cases (exec_locate_of_found hq).symm.trans h
    exact .of_flag_eq fun f hf => by simp [ne_live_of_sticky hf]

theorem decode_sticky (h : exec (.decode b l) s = .next t) : StickyRule s t := by
  by_cases hbad : l.toNat < 2 ∨ s.inBuf.length < l.toNat
  · cases (exec_decode_of_bad hbad).symm.trans h
    exact .of_error (.inl rfl) fun f hf hset => by simp [ne_live_of_sticky hf, hset]
  · obtain ⟨h2, hl⟩ : 2 ≤ l.toNat ∧ l.toNat ≤ s.inBuf.length := by omega
    have hc : s.inBuf[1]? = some s.inBuf[1] := List.getElem?_eq_getElem _
    cases (exec_decode_of_good h2 hl hc).symm.trans h
    exact .of_flag_eq fun f hf => by simp [ne_live_of_sticky hf]

theorem dispatch_sticky (h : exec (.dispatch b l) s = .next t) : StickyRule s t := by
  cases hv : s.flag .decValid with
  | false => cases (exec_dispatch_of_empty hv).symm.trans h; exact .of_flag_eq fun _ _ => rfl
  | true => cases (exec_dispatch_of_latched hv).symm.trans h; exact .latchFinished s _

theorem encAck_sticky (h : exec (.encAck b l) s = .next t) : StickyRule s t := by
  cases exec_encAck.symm.trans h
  exact .emitted s _ _

theorem encNack_sticky (h : exec (.encNack b l) s = .next t) : StickyRule s t := by
  cases exec_encNack.symm.trans h
  exact .emitted s _ _

theorem encRes_sticky (h : exec (.encRes b l) s = .next t) : StickyRule s t := by
  cases hv : s.flag .decValid with
  | false => cases (exec_encRes_of_empty hv).symm.trans h; exact .of_flag_eq fun _ _ => rfl
  | true =>
    by_cases hf : (resFrame s.cfg s.decBody).length < 65536
    · cases (exec_encRes_of_narrow hv hf).symm.trans h
      exact .emitted s _ _
    · cases (exec_encRes_of_wide hv hf).symm.trans h
      exact (StickyRule.emitted { s with draws := s.draws + 1 } _ _).congr_left fun _ _ => rfl

theorem poll_sticky (h : exec (.poll b l) s = .next t) : StickyRule s t := by
  cases hv : s.flag .decValid with
  | true => cases (exec_poll_of_latched hv).symm.trans h; exact .latchFinished s _
  | false =>
    rcases hq : located s.inBuf with ⟨_ | n, q⟩
    · cases (exec_poll_of_none hv hq).symm.trans h
      exact .of_flag_eq fun f hf => by simp [ne_live_of_sticky hf]
    · obtain ⟨c, hc⟩ := exists_code_of_located hq
      cases (exec_poll_of_found hv hq hc).symm.trans h
      exact (StickyRule.latchFinished _ _).congr_left fun f hf => by simp [ne_live_of_sticky hf]

/-- A read writes nothing or is refused. -/
theorem ReadsOrRefuses.sticky {i : Instr} (hi : ReadsOrRefuses i s) (h : exec i s = .next t) : StickyRule s t := by
  obtain ⟨v, hread⟩ | hrefuse := hi
  · cases hread.symm.trans h; exact .of_flag_eq fun _ _ => rfl
  · cases hrefuse.symm.trans h; exact .refuseIllegal s

/-- Every command word but `CLEAR_STATUS`; the wire commands are no command word's meaning. -/
theorem command_sticky {w : Word} (h : exec (decode (.word w)) s = .next t)
    (hother : ∀ b l, decode (.word w) ≠ .clearStatus b l) : StickyRule s t := by
  obtain ⟨v, hword⟩ := encode_decode_word_isWord w
  generalize decode (.word w) = i at h hword hother
  cases i with
  | nop => cases h; exact .of_flag_eq fun _ _ => rfl
  | pushIn b l => exact pushIn_sticky h
  | popOut b l => exact popOut_sticky h
  | dropIn b l => exact dropIn_sticky h
  | locate b l => exact locate_sticky h
  | decode b l => exact decode_sticky h
  | dispatch b l => exact dispatch_sticky h
  | encAck b l => exact encAck_sticky h
  | encNack b l => exact encNack_sticky h
  | encRes b l => exact encRes_sticky h
  | poll b l => exact poll_sticky h
  | read b l => exact (read_readsOrRefuses s b l).sticky h
  | readBody b l => exact (readBody_readsOrRefuses s b l).sticky h
  | clearStatus b l => exact absurd rfl (hother b l)
  | reservedOpE | reservedOpF | reservedRsv => cases h; exact .refuseIllegal s
  | codePassThrough | codeBeacon | codeDeployAntenna | codeReportStatus | codeHaltRadio | codeUnrecognized => cases hword

theorem clearStatus_sticky (h : exec (.clearStatus b l) s = .next t) {f : StatusBit} (hf : f ∈ stickyBits) :
    t.flag f = false := by
  cases h
  obtain rfl | rfl | rfl | rfl := (mem_stickyBits_iff f).1 hf <;> simp

/-- A reset clears every bit of `STATUS` (70_reset_and_hazards.md R200). -/
theorem State.resetEvent_flag (s : State) (f : StatusBit) : s.resetEvent.flag f = false := BitVec.getLsbD_zero

end

/-- Settles O22: `CLEAR_STATUS` and reset clear the sticky bits, and every other command word meets `StickyRule`. -/
theorem stickyBitsComeFromErrorsAndStayUntilCleared : Obligations.StickyBitsComeFromErrorsAndStayUntilCleared := by
  intro w s t f hsticky hexec
  have hf : f ∈ stickyBits := (mem_stickyBits_iff f).2 hsticky
  have hcleared : (∃ b l, decode (.word w) = .clearStatus b l) → t.flag f = false := by
    rintro ⟨b, l, hw⟩
    rw [hw] at hexec
    exact clearStatus_sticky hexec hf
  refine ⟨fun hset hother => (command_sticky hexec hother).kept f hf hset, fun hclear hset => ?_, hcleared,
    s.resetEvent_flag f⟩
  have hother (b : Byte) (l : Half) : decode (.word w) ≠ .clearStatus b l := fun hw => by
    rw [hcleared ⟨b, l, hw⟩] at hset
    cases hset
  exact (command_sticky hexec hother).raised f hf hclear hset

end Sys2Proof.Machine
end

section
/-! Reset and power-on (70_reset_and_hazards.md R200, R202, R203). -/

namespace Sys2Proof.Machine

/-- Settles O6: a step at a reset is `State.resetEvent`, and then the index moves by one. -/
theorem resetEmptiesTheBlock : Obligations.ResetEmptiesTheBlock := by
  intro s hfault hfetch
  exact ⟨s.pos + 1, step_of_reset hfault hfetch⟩

/-- R203 as one equation: of the block's own state, a reset keeps the parameters, `EVLOG` and `FAULT`, and every other
field takes its power-on value. -/
theorem State.resetEvent_eq_powerOn (s : State) :
    s.resetEvent = { State.powerOn s.cfg with
      evlog := s.evlog ++ [.reset], fault := s.fault, host := s.host, pos := s.pos, responses := s.responses,
      answers := s.answers, draws := s.draws } := rfl

/-- No body is latched at power-on (10_state.md R22). -/
@[simp] theorem State.powerOn_decLen (p : Params) : (State.powerOn p).decLen = 0#16 := rfl

@[simp] theorem State.resetEvent_decLen (s : State) : s.resetEvent.decLen = 0#16 := rfl

/-- Settles O16: the agreement with reset is `State.resetEvent_eq_powerOn` field by field, and the values are those
`State.powerOn` gives. -/
theorem powerOnIsTheResetStateWithEmptyLog : Obligations.PowerOnIsTheResetStateWithEmptyLog := by
  refine ⟨?_, Params.reference, rfl⟩
  rintro _ s rfl
  dsimp only
  rw [State.powerOn_decLen, State.resetEvent_decLen, State.resetEvent_eq_powerOn]
  simp only [State.powerOn, and_self]

end Sys2Proof.Machine
end
